-- ==== Sys2Proof/Word.lean ====
section
/-! DEFINITION. The word types of the core (00_scope.md R6, R11): words, bytes and register indices. -/

namespace Sys2Proof

/-- A 32-bit word: a register value, an instruction word or an address (R6). -/
abbrev Word := BitVec 32

/-- The unit of memory: one address names one byte (R6). -/
abbrev Byte := BitVec 8

/-- A 5-bit register index of an instruction field (10_state.md R21). -/
abbrev Reg := BitVec 5

end Sys2Proof
end

