-- ==== Sys2Proof/Config.lean ====
section
/-! DEFINITION. What the creation of a core fixes for its life (00_scope.md R5 to R8; 70_reset_and_hazards.md R500): the parameters of the spec and the memory port's map of faulting accesses. -/

namespace Sys2Proof

/-- A behavioural parameter's two settings: the document's literal behaviour or SPARC V8's (00_scope.md R8). -/
inductive Reading where
  | doc
  | v8
  deriving DecidableEq, Repr

/-- The setting of IMPL_UNLISTED (00_scope.md R8; 49_unlisted_v8.md R360). -/
inductive Unlisted where
  | illegal
  | v8
  deriving DecidableEq, Repr

/-- The three kinds of access the memory port tells apart (20_memory.md R60). -/
inductive Access where
  | read
  | write
  | fetch
  deriving DecidableEq, Repr

/-- A range of addresses whose device answers the marked kinds of access with a Fault: unbacked memory denies all three, an execute-only region denies read and write (20_memory.md R60, R71).
DESIGN CHOICE (log 5): the spec leaves the device behind the port out, and a model's memory may be plain bytes or a parameter (U19). -/
structure PortRegion where
  base : Nat
  size : Nat
  denyRead : Bool
  denyWrite : Bool
  denyFetch : Bool
  deriving DecidableEq, Repr

/-- The parameters `create(config)` fixes. They are a field of the machine's state that no step writes (log 1). -/
structure Config where
  /-- NWIN, the number of register windows (R5). -/
  nwin : Nat
  /-- PSR_IMPL (R7). -/
  psrImpl : BitVec 4
  /-- PSR_VER (R7). -/
  psrVer : BitVec 4
  /-- IRQ_GATING (R8; 60_exceptions.md R462). -/
  irqGating : Reading
  /-- BA_ANNUL (R8; 45_branches.md R262). -/
  baAnnul : Reading
  /-- IMPL_UNLISTED (R8; 49_unlisted_v8.md R360). -/
  implUnlisted : Unlisted
  /-- The accesses the memory port answers with a Fault (20_memory.md R68). -/
  port : List PortRegion
  deriving DecidableEq, Repr

/-- The range R5 gives NWIN. -/
def Config.valid (c : Config) : Bool := 2 ≤ c.nwin && c.nwin ≤ 32

/-- The defaults of R7 and R8.
DESIGN CHOICE (log 1): NWIN is 8, the value of every worked example; the spec gives NWIN no value.
DESIGN CHOICE (log 5): no access faults. -/
def Config.default : Config :=
  { nwin := 8, psrImpl := 0, psrVer := 0, irqGating := .doc, baAnnul := .doc, implUnlisted := .illegal, port := [] }

end Sys2Proof
end

