-- ==== Sys2Proof/Syntax.lean ====
section
/-! DEFINITION. The instructions: one constructor for each row of spec/opcode_table.json, with the fields the decoder extracts (30_encoding.md R96, R104, R107). Fields the hardware ignores (R109) are kept, so that an instruction determines its word. -/

namespace Sys2Proof

/-- The second operand of a format-3 instruction (30_encoding.md R94, R98): a register, beside the unused asi field (i = 0), or a 13-bit immediate that is sign-extended when it is used (i = 1). -/
inductive Operand2 where
  | reg (asi : BitVec 8) (rs2 : Reg)
  | imm (simm13 : BitVec 13)
  deriving DecidableEq, Repr

/-- The sixteen conditions of Bicc and Ticc, by their mnemonic suffix, in the order of their codes 0 to 15 (30_encoding.md R102). -/
inductive Cond where
  | n | e | le | l | leu | cs | neg | vs | a | ne | g | ge | gu | cc | pos | vc
  deriving DecidableEq, Repr

/-- One constructor for each row of spec/opcode_table.json.
`rd`, `rs1`, `src` are the fields of format 3 (R94); RETT, WRPSR, WRWIM, WRTBR and FLUSH ignore `rd`; `low` is w[13:0] (w[12:0] for STBAR), which the RD instructions ignore; RDPSR, RDWIM and RDTBR ignore `rs1` (R106); `res` is the ignored bit 29 of Ticc (R95); `a` is the annul bit (R93). -/
inductive Instr where
  /-- SETHI: R150. -/
  | sethi (rd : Reg) (imm22 : BitVec 22)
  /-- BN: R263. -/
  | bn (a : Bool) (disp22 : BitVec 22)
  /-- BE: R264. -/
  | be (a : Bool) (disp22 : BitVec 22)
  /-- BLE: R265. -/
  | ble (a : Bool) (disp22 : BitVec 22)
  /-- BL: R266. -/
  | bl (a : Bool) (disp22 : BitVec 22)
  /-- BLEU: R267. -/
  | bleu (a : Bool) (disp22 : BitVec 22)
  /-- BCS: R268. -/
  | bcs (a : Bool) (disp22 : BitVec 22)
  /-- BNEG: R269. -/
  | bneg (a : Bool) (disp22 : BitVec 22)
  /-- BVS: R270. -/
  | bvs (a : Bool) (disp22 : BitVec 22)
  /-- BA: R271. -/
  | ba (a : Bool) (disp22 : BitVec 22)
  /-- BNE: R272. -/
  | bne (a : Bool) (disp22 : BitVec 22)
  /-- BG: R273. -/
  | bg (a : Bool) (disp22 : BitVec 22)
  /-- BGE: R274. -/
  | bge (a : Bool) (disp22 : BitVec 22)
  /-- BGU: R275. -/
  | bgu (a : Bool) (disp22 : BitVec 22)
  /-- BCC: R276. -/
  | bcc (a : Bool) (disp22 : BitVec 22)
  /-- BPOS: R277. -/
  | bpos (a : Bool) (disp22 : BitVec 22)
  /-- BVC: R278. -/
  | bvc (a : Bool) (disp22 : BitVec 22)
  /-- AND: R152. -/
  | and (rd rs1 : Reg) (src : Operand2)
  /-- ANDcc: R153. -/
  | andcc (rd rs1 : Reg) (src : Operand2)
  /-- OR: R154. -/
  | or (rd rs1 : Reg) (src : Operand2)
  /-- ORcc: R155. -/
  | orcc (rd rs1 : Reg) (src : Operand2)
  /-- XOR: R156. -/
  | xor (rd rs1 : Reg) (src : Operand2)
  /-- XORcc: R157. -/
  | xorcc (rd rs1 : Reg) (src : Operand2)
  /-- ANDN: R158. -/
  | andn (rd rs1 : Reg) (src : Operand2)
  /-- ANDNcc: R159. -/
  | andncc (rd rs1 : Reg) (src : Operand2)
  /-- ORN: R160. -/
  | orn (rd rs1 : Reg) (src : Operand2)
  /-- ORNcc: R161. -/
  | orncc (rd rs1 : Reg) (src : Operand2)
  /-- XNOR: R162. -/
  | xnor (rd rs1 : Reg) (src : Operand2)
  /-- XNORcc: R163. -/
  | xnorcc (rd rs1 : Reg) (src : Operand2)
  /-- ADD: R170. -/
  | add (rd rs1 : Reg) (src : Operand2)
  /-- ADDcc: R171. -/
  | addcc (rd rs1 : Reg) (src : Operand2)
  /-- SUB: R172. -/
  | sub (rd rs1 : Reg) (src : Operand2)
  /-- SUBcc: R173. -/
  | subcc (rd rs1 : Reg) (src : Operand2)
  /-- SLL: R181. -/
  | sll (rd rs1 : Reg) (src : Operand2)
  /-- SRL: R182. -/
  | srl (rd rs1 : Reg) (src : Operand2)
  /-- SRA: R183. -/
  | sra (rd rs1 : Reg) (src : Operand2)
  /-- UMUL: R191. -/
  | umul (rd rs1 : Reg) (src : Operand2)
  /-- UMULcc: R192. -/
  | umulcc (rd rs1 : Reg) (src : Operand2)
  /-- SMUL: R193. -/
  | smul (rd rs1 : Reg) (src : Operand2)
  /-- SMULcc: R194. -/
  | smulcc (rd rs1 : Reg) (src : Operand2)
  /-- UDIV: R196. -/
  | udiv (rd rs1 : Reg) (src : Operand2)
  /-- UDIVcc: R197. -/
  | udivcc (rd rs1 : Reg) (src : Operand2)
  /-- SDIV: R198. -/
  | sdiv (rd rs1 : Reg) (src : Operand2)
  /-- SDIVcc: R199. -/
  | sdivcc (rd rs1 : Reg) (src : Operand2)
  /-- MULScc: R200. -/
  | mulscc (rd rs1 : Reg) (src : Operand2)
  /-- LD: R211. -/
  | ld (rd rs1 : Reg) (src : Operand2)
  /-- LDUB: R212. -/
  | ldub (rd rs1 : Reg) (src : Operand2)
  /-- LDSB: R213. -/
  | ldsb (rd rs1 : Reg) (src : Operand2)
  /-- LDD: R214. -/
  | ldd (rd rs1 : Reg) (src : Operand2)
  /-- LDUH: R215. -/
  | lduh (rd rs1 : Reg) (src : Operand2)
  /-- LDSH: R216. -/
  | ldsh (rd rs1 : Reg) (src : Operand2)
  /-- ST: R217. -/
  | st (rd rs1 : Reg) (src : Operand2)
  /-- STB: R218. -/
  | stb (rd rs1 : Reg) (src : Operand2)
  /-- STH: R219. -/
  | sth (rd rs1 : Reg) (src : Operand2)
  /-- STD: R220. -/
  | std (rd rs1 : Reg) (src : Operand2)
  /-- CALL: R241. -/
  | call (disp30 : BitVec 30)
  /-- JMPL: R242. -/
  | jmpl (rd rs1 : Reg) (src : Operand2)
  /-- RETT: R243. -/
  | rett (rd rs1 : Reg) (src : Operand2)
  /-- TN: R291. -/
  | tn (res : Bool) (rs1 : Reg) (src : Operand2)
  /-- TE: R292. -/
  | te (res : Bool) (rs1 : Reg) (src : Operand2)
  /-- TLE: R293. -/
  | tle (res : Bool) (rs1 : Reg) (src : Operand2)
  /-- TL: R294. -/
  | tl (res : Bool) (rs1 : Reg) (src : Operand2)
  /-- TLEU: R295. -/
  | tleu (res : Bool) (rs1 : Reg) (src : Operand2)
  /-- TCS: R296. -/
  | tcs (res : Bool) (rs1 : Reg) (src : Operand2)
  /-- TNEG: R297. -/
  | tneg (res : Bool) (rs1 : Reg) (src : Operand2)
  /-- TVS: R298. -/
  | tvs (res : Bool) (rs1 : Reg) (src : Operand2)
  /-- TA: R299. -/
  | ta (res : Bool) (rs1 : Reg) (src : Operand2)
  /-- TNE: R300. -/
  | tne (res : Bool) (rs1 : Reg) (src : Operand2)
  /-- TG: R301. -/
  | tg (res : Bool) (rs1 : Reg) (src : Operand2)
  /-- TGE: R302. -/
  | tge (res : Bool) (rs1 : Reg) (src : Operand2)
  /-- TGU: R303. -/
  | tgu (res : Bool) (rs1 : Reg) (src : Operand2)
  /-- TCC: R304. -/
  | tcc (res : Bool) (rs1 : Reg) (src : Operand2)
  /-- TPOS: R305. -/
  | tpos (res : Bool) (rs1 : Reg) (src : Operand2)
  /-- TVC: R306. -/
  | tvc (res : Bool) (rs1 : Reg) (src : Operand2)
  /-- SAVE: R320. -/
  | save (rd rs1 : Reg) (src : Operand2)
  /-- RESTORE: R321. -/
  | restore (rd rs1 : Reg) (src : Operand2)
  /-- RDY: R331. -/
  | rdy (rd : Reg) (low : BitVec 14)
  /-- STBAR: R366. -/
  | stbar (low : BitVec 13)
  /-- RDASR: R332. -/
  | rdasr (rd asr : Reg) (low : BitVec 14)
  /-- RDPSR: R333. -/
  | rdpsr (rd rs1 : Reg) (low : BitVec 14)
  /-- RDWIM: R334. -/
  | rdwim (rd rs1 : Reg) (low : BitVec 14)
  /-- RDTBR: R335. -/
  | rdtbr (rd rs1 : Reg) (low : BitVec 14)
  /-- WRY: R341. -/
  | wry (rs1 : Reg) (src : Operand2)
  /-- WRASR: R342. -/
  | wrasr (asr rs1 : Reg) (src : Operand2)
  /-- WRPSR: R343. -/
  | wrpsr (rd rs1 : Reg) (src : Operand2)
  /-- WRWIM: R344. -/
  | wrwim (rd rs1 : Reg) (src : Operand2)
  /-- WRTBR: R345. -/
  | wrtbr (rd rs1 : Reg) (src : Operand2)
  /-- ADDX: R361. -/
  | addx (rd rs1 : Reg) (src : Operand2)
  /-- ADDXcc: R362. -/
  | addxcc (rd rs1 : Reg) (src : Operand2)
  /-- SUBX: R363. -/
  | subx (rd rs1 : Reg) (src : Operand2)
  /-- SUBXcc: R364. -/
  | subxcc (rd rs1 : Reg) (src : Operand2)
  /-- TADDcc: R369. -/
  | taddcc (rd rs1 : Reg) (src : Operand2)
  /-- TSUBcc: R370. -/
  | tsubcc (rd rs1 : Reg) (src : Operand2)
  /-- TADDccTV: R371. -/
  | taddcctv (rd rs1 : Reg) (src : Operand2)
  /-- TSUBccTV: R371. -/
  | tsubcctv (rd rs1 : Reg) (src : Operand2)
  /-- FLUSH: R365. -/
  | flush (rd rs1 : Reg) (src : Operand2)
  /-- FPop1: R372. -/
  | fpop1 (rd rs1 : Reg) (opf : BitVec 9) (rs2 : Reg)
  /-- FPop2: R372. -/
  | fpop2 (rd rs1 : Reg) (opf : BitVec 9) (rs2 : Reg)
  /-- CPop1: R372. -/
  | cpop1 (rd rs1 : Reg) (opf : BitVec 9) (rs2 : Reg)
  /-- CPop2: R372. -/
  | cpop2 (rd rs1 : Reg) (opf : BitVec 9) (rs2 : Reg)
  /-- LDSTUB: R367. -/
  | ldstub (rd rs1 : Reg) (src : Operand2)
  /-- SWAP: R373. -/
  | swap (rd rs1 : Reg) (src : Operand2)
  /-- LDA: R368. -/
  | lda (rd rs1 : Reg) (src : Operand2)
  /-- LDUBA: R368. -/
  | lduba (rd rs1 : Reg) (src : Operand2)
  /-- LDUHA: R368. -/
  | lduha (rd rs1 : Reg) (src : Operand2)
  /-- LDDA: R368. -/
  | ldda (rd rs1 : Reg) (src : Operand2)
  /-- STA: R368. -/
  | sta (rd rs1 : Reg) (src : Operand2)
  /-- STBA: R368. -/
  | stba (rd rs1 : Reg) (src : Operand2)
  /-- STHA: R368. -/
  | stha (rd rs1 : Reg) (src : Operand2)
  /-- STDA: R368. -/
  | stda (rd rs1 : Reg) (src : Operand2)
  /-- LDSBA: R368. -/
  | ldsba (rd rs1 : Reg) (src : Operand2)
  /-- LDSHA: R368. -/
  | ldsha (rd rs1 : Reg) (src : Operand2)
  /-- LDSTUBA: R368. -/
  | ldstuba (rd rs1 : Reg) (src : Operand2)
  /-- SWAPA: R368. -/
  | swapa (rd rs1 : Reg) (src : Operand2)
  /-- LDF: R372. -/
  | ldf (rd rs1 : Reg) (src : Operand2)
  /-- LDFSR: R372. -/
  | ldfsr (rd rs1 : Reg) (src : Operand2)
  /-- LDDF: R372. -/
  | lddf (rd rs1 : Reg) (src : Operand2)
  /-- STF: R372. -/
  | stf (rd rs1 : Reg) (src : Operand2)
  /-- STFSR: R372. -/
  | stfsr (rd rs1 : Reg) (src : Operand2)
  /-- STDFQ: R372. -/
  | stdfq (rd rs1 : Reg) (src : Operand2)
  /-- STDF: R372. -/
  | stdf (rd rs1 : Reg) (src : Operand2)
  /-- LDC: R372. -/
  | ldc (rd rs1 : Reg) (src : Operand2)
  /-- LDCSR: R372. -/
  | ldcsr (rd rs1 : Reg) (src : Operand2)
  /-- LDDC: R372. -/
  | lddc (rd rs1 : Reg) (src : Operand2)
  /-- STC: R372. -/
  | stc (rd rs1 : Reg) (src : Operand2)
  /-- STCSR: R372. -/
  | stcsr (rd rs1 : Reg) (src : Operand2)
  /-- STDCQ: R372. -/
  | stdcq (rd rs1 : Reg) (src : Operand2)
  /-- STDC: R372. -/
  | stdc (rd rs1 : Reg) (src : Operand2)
  /-- UNIMP: R374. -/
  | unimp (rd : Reg) (const22 : BitVec 22)
  /-- FBfcc: R372. -/
  | fbfcc (a : Bool) (cond : BitVec 4) (disp22 : BitVec 22)
  /-- CBccc: R372. -/
  | cbccc (a : Bool) (cond : BitVec 4) (disp22 : BitVec 22)
  deriving DecidableEq, Repr

/-- How the decoder's tables hold a row (30_encoding.md R103 to R105; 49_unlisted_v8.md R360). -/
inductive RowClass where
  /-- One of the 86 identities of R104: mapped under both settings of IMPL_UNLISTED. -/
  | named
  /-- One of the twelve unlisted rows that IMPL_UNLISTED = v8 maps (R360). -/
  | twelve
  /-- An unlisted row that is Invalid under both settings (R368, R372, R374). -/
  | unmapped
  deriving DecidableEq, Repr

/-- The record of an Invalid word: the table that refused it, the code found unmapped there, and the word's other fields (30_encoding.md R94, R96, R101, R103, R105, R108; 49_unlisted_v8.md R368). -/
inductive InvalidRecord where
  /-- op = 0: the op2 code (R101) and the fields of the SETHI form (R93). -/
  | unmappedOp2 (op2 : BitVec 3) (rd : Reg) (imm22 : BitVec 22)
  /-- op = 2: the op3 code, unlisted or reserved (R103), and the fields of format 3, asi among them when i = 0 (R94). -/
  | unmappedArith (op3 : BitVec 6) (rd rs1 : Reg) (src : Operand2)
  /-- op = 3: the op3 code, unlisted or reserved (R105), and the fields of format 3, asi among them when i = 0 (R94). -/
  | unmappedMemory (op3 : BitVec 6) (rd rs1 : Reg) (src : Operand2)
  /-- Fewer than four bytes: no instruction word at all (R90). -/
  | truncated
  deriving DecidableEq, Repr

/-- The decoder's result (R96): an instruction identity with its fields, or Invalid with its own. -/
inductive Decoded where
  | instr (i : Instr)
  | invalid (record : InvalidRecord)
  deriving DecidableEq, Repr

end Sys2Proof
end

