-- ==== Sys2Proof/WellFormed.lean ====
section
/-! DEFINITION. Which instruction terms are instructions of the table: the register-number selectors of the RD and WR rows (30_encoding.md R106, R115). Every other field may hold any value of its width (R109). -/

namespace Sys2Proof

/-- RDASR names a register other than 0, which is RDY (R106), and is not the STBAR row, which stands before it (R115): rs1 = 15 with rd = 0 and i = 0. WRASR names a register other than 0, which is WRY (R106). -/
def Instr.wellFormed : Instr → Bool
  | .rdasr rd asr low => asr ≠ 0 && !(asr == 15 && rd == 0 && !low.getLsbD 13)
  | .wrasr asr _ _ => asr ≠ 0
  | _ => true

end Sys2Proof
end

