-- ==== Sys2Proof/Decode.lean ====
section
/-! DEFINITION. The decoder, total on every word and every list of bytes (30_encoding.md R90 to R111), and after it the encoder, written from the same tables.
The decoder has two stages: the row of spec/opcode_table.json that a word matches first (R115), and what that row decodes to under IMPL_UNLISTED, which is the row's identity or Invalid (R107, R360).
The positions and numbers are SPARC V8's as the spec supplies them (D1, D2; log 13). -/

namespace Sys2Proof

/-! ### Fields of a word (R91 to R95) -/

/-- op = w[31:30] (R91). -/
def fieldOp (w : Word) : BitVec 2 := w.extractLsb' 30 2
/-- rd = w[29:25] (R94). -/
def fieldRd (w : Word) : Reg := w.extractLsb' 25 5
/-- a = w[29] (R93), also Ticc's ignored bit (R95). -/
def fieldA (w : Word) : Bool := w.getLsbD 29
/-- cond = w[28:25] (R93, R95). -/
def fieldCond (w : Word) : BitVec 4 := w.extractLsb' 25 4
/-- op2 = w[24:22] (R93). -/
def fieldOp2 (w : Word) : BitVec 3 := w.extractLsb' 22 3
/-- op3 = w[24:19] (R94). -/
def fieldOp3 (w : Word) : BitVec 6 := w.extractLsb' 19 6
/-- rs1 = w[18:14] (R94). -/
def fieldRs1 (w : Word) : Reg := w.extractLsb' 14 5
/-- w[13:0]: i, asi and rs2, or i and simm13 (R94). -/
def fieldLow (w : Word) : BitVec 14 := w.extractLsb' 0 14
/-- imm22 or disp22 = w[21:0] (R93). -/
def fieldImm22 (w : Word) : BitVec 22 := w.extractLsb' 0 22
/-- disp30 = w[29:0] (R92). -/
def fieldDisp30 (w : Word) : BitVec 30 := w.extractLsb' 0 30

/-- The second operand from w[13:0] (R94): i = 1 is the immediate, i = 0 the register beside the asi field. -/
def decodeOperand2 (low : BitVec 14) : Operand2 :=
  if low.getLsbD 13 then .imm (low.extractLsb' 0 13) else .reg (low.extractLsb' 5 8) (low.extractLsb' 0 5)

/-! ### The tables -/

/-- The code of a condition (R102). -/
def condCode : Cond → BitVec 4
  | .n => 0#4
  | .e => 1#4
  | .le => 2#4
  | .l => 3#4
  | .leu => 4#4
  | .cs => 5#4
  | .neg => 6#4
  | .vs => 7#4
  | .a => 8#4
  | .ne => 9#4
  | .g => 10#4
  | .ge => 11#4
  | .gu => 12#4
  | .cc => 13#4
  | .pos => 14#4
  | .vc => 15#4

/-- The cond map (R102): all sixteen codes are mapped (C5), and the last arm is code 15. -/
def condOfCode : BitVec 4 → Cond
  | 0#4 => .n
  | 1#4 => .e
  | 2#4 => .le
  | 3#4 => .l
  | 4#4 => .leu
  | 5#4 => .cs
  | 6#4 => .neg
  | 7#4 => .vs
  | 8#4 => .a
  | 9#4 => .ne
  | 10#4 => .g
  | 11#4 => .ge
  | 12#4 => .gu
  | 13#4 => .cc
  | 14#4 => .pos
  | _ => .vc

/-- The Bicc of a condition (R102). -/
def decodeBicc (a : Bool) (disp22 : BitVec 22) : Cond → Instr
  | .n => .bn a disp22
  | .e => .be a disp22
  | .le => .ble a disp22
  | .l => .bl a disp22
  | .leu => .bleu a disp22
  | .cs => .bcs a disp22
  | .neg => .bneg a disp22
  | .vs => .bvs a disp22
  | .a => .ba a disp22
  | .ne => .bne a disp22
  | .g => .bg a disp22
  | .ge => .bge a disp22
  | .gu => .bgu a disp22
  | .cc => .bcc a disp22
  | .pos => .bpos a disp22
  | .vc => .bvc a disp22

/-- The Ticc of a condition (R102). -/
def decodeTicc (res : Bool) (rs1 : Reg) (src : Operand2) : Cond → Instr
  | .n => .tn res rs1 src
  | .e => .te res rs1 src
  | .le => .tle res rs1 src
  | .l => .tl res rs1 src
  | .leu => .tleu res rs1 src
  | .cs => .tcs res rs1 src
  | .neg => .tneg res rs1 src
  | .vs => .tvs res rs1 src
  | .a => .ta res rs1 src
  | .ne => .tne res rs1 src
  | .g => .tg res rs1 src
  | .ge => .tge res rs1 src
  | .gu => .tgu res rs1 src
  | .cc => .tcc res rs1 src
  | .pos => .tpos res rs1 src
  | .vc => .tvc res rs1 src

/-- op3 = 0x28: RDY, STBAR and RDASR (R106, R115). -/
def decodeRdAsr (rd rs1 : Reg) (low : BitVec 14) : Instr :=
  if rs1 = 0 then .rdy rd low
  else if rs1 = 15 ∧ rd = 0 ∧ low.getLsbD 13 = false then .stbar (low.extractLsb' 0 13)
  else .rdasr rd rs1 low

/-- op3 = 0x30: WRY and WRASR (R106). -/
def decodeWrAsr (rd rs1 : Reg) (src : Operand2) : Instr :=
  if rd = 0 then .wry rs1 src else .wrasr rd rs1 src

/-- The op3 map for op = 2 (R103), with the unlisted rows; none for a reserved code. -/
def decodeArith (w : Word) (rd rs1 : Reg) (src : Operand2) (low : BitVec 14) : BitVec 6 → Option Instr
  | 0x00#6 => some (.add rd rs1 src)
  | 0x01#6 => some (.and rd rs1 src)
  | 0x02#6 => some (.or rd rs1 src)
  | 0x03#6 => some (.xor rd rs1 src)
  | 0x04#6 => some (.sub rd rs1 src)
  | 0x05#6 => some (.andn rd rs1 src)
  | 0x06#6 => some (.orn rd rs1 src)
  | 0x07#6 => some (.xnor rd rs1 src)
  | 0x08#6 => some (.addx rd rs1 src)
  | 0x0A#6 => some (.umul rd rs1 src)
  | 0x0B#6 => some (.smul rd rs1 src)
  | 0x0C#6 => some (.subx rd rs1 src)
  | 0x0E#6 => some (.udiv rd rs1 src)
  | 0x0F#6 => some (.sdiv rd rs1 src)
  | 0x10#6 => some (.addcc rd rs1 src)
  | 0x11#6 => some (.andcc rd rs1 src)
  | 0x12#6 => some (.orcc rd rs1 src)
  | 0x13#6 => some (.xorcc rd rs1 src)
  | 0x14#6 => some (.subcc rd rs1 src)
  | 0x15#6 => some (.andncc rd rs1 src)
  | 0x16#6 => some (.orncc rd rs1 src)
  | 0x17#6 => some (.xnorcc rd rs1 src)
  | 0x18#6 => some (.addxcc rd rs1 src)
  | 0x1A#6 => some (.umulcc rd rs1 src)
  | 0x1B#6 => some (.smulcc rd rs1 src)
  | 0x1C#6 => some (.subxcc rd rs1 src)
  | 0x1E#6 => some (.udivcc rd rs1 src)
  | 0x1F#6 => some (.sdivcc rd rs1 src)
  | 0x20#6 => some (.taddcc rd rs1 src)
  | 0x21#6 => some (.tsubcc rd rs1 src)
  | 0x22#6 => some (.taddcctv rd rs1 src)
  | 0x23#6 => some (.tsubcctv rd rs1 src)
  | 0x24#6 => some (.mulscc rd rs1 src)
  | 0x25#6 => some (.sll rd rs1 src)
  | 0x26#6 => some (.srl rd rs1 src)
  | 0x27#6 => some (.sra rd rs1 src)
  | 0x28#6 => some (decodeRdAsr rd rs1 low)
  | 0x29#6 => some (.rdpsr rd rs1 low)
  | 0x2A#6 => some (.rdwim rd rs1 low)
  | 0x2B#6 => some (.rdtbr rd rs1 low)
  | 0x30#6 => some (decodeWrAsr rd rs1 src)
  | 0x31#6 => some (.wrpsr rd rs1 src)
  | 0x32#6 => some (.wrwim rd rs1 src)
  | 0x33#6 => some (.wrtbr rd rs1 src)
  | 0x34#6 => some (.fpop1 rd rs1 (low.extractLsb' 5 9) (low.extractLsb' 0 5))
  | 0x35#6 => some (.fpop2 rd rs1 (low.extractLsb' 5 9) (low.extractLsb' 0 5))
  | 0x36#6 => some (.cpop1 rd rs1 (low.extractLsb' 5 9) (low.extractLsb' 0 5))
  | 0x37#6 => some (.cpop2 rd rs1 (low.extractLsb' 5 9) (low.extractLsb' 0 5))
  | 0x38#6 => some (.jmpl rd rs1 src)
  | 0x39#6 => some (.rett rd rs1 src)
  | 0x3A#6 => some (decodeTicc (fieldA w) rs1 src (condOfCode (fieldCond w)))
  | 0x3B#6 => some (.flush rd rs1 src)
  | 0x3C#6 => some (.save rd rs1 src)
  | 0x3D#6 => some (.restore rd rs1 src)
  | _ => none

/-- The op3 map for op = 3 (R105), with the unlisted rows; none for a reserved code. -/
def decodeMemory (rd rs1 : Reg) (src : Operand2) : BitVec 6 → Option Instr
  | 0x00#6 => some (.ld rd rs1 src)
  | 0x01#6 => some (.ldub rd rs1 src)
  | 0x02#6 => some (.lduh rd rs1 src)
  | 0x03#6 => some (.ldd rd rs1 src)
  | 0x04#6 => some (.st rd rs1 src)
  | 0x05#6 => some (.stb rd rs1 src)
  | 0x06#6 => some (.sth rd rs1 src)
  | 0x07#6 => some (.std rd rs1 src)
  | 0x09#6 => some (.ldsb rd rs1 src)
  | 0x0A#6 => some (.ldsh rd rs1 src)
  | 0x0D#6 => some (.ldstub rd rs1 src)
  | 0x0F#6 => some (.swap rd rs1 src)
  | 0x10#6 => some (.lda rd rs1 src)
  | 0x11#6 => some (.lduba rd rs1 src)
  | 0x12#6 => some (.lduha rd rs1 src)
  | 0x13#6 => some (.ldda rd rs1 src)
  | 0x14#6 => some (.sta rd rs1 src)
  | 0x15#6 => some (.stba rd rs1 src)
  | 0x16#6 => some (.stha rd rs1 src)
  | 0x17#6 => some (.stda rd rs1 src)
  | 0x19#6 => some (.ldsba rd rs1 src)
  | 0x1A#6 => some (.ldsha rd rs1 src)
  | 0x1D#6 => some (.ldstuba rd rs1 src)
  | 0x1F#6 => some (.swapa rd rs1 src)
  | 0x20#6 => some (.ldf rd rs1 src)
  | 0x21#6 => some (.ldfsr rd rs1 src)
  | 0x23#6 => some (.lddf rd rs1 src)
  | 0x24#6 => some (.stf rd rs1 src)
  | 0x25#6 => some (.stfsr rd rs1 src)
  | 0x26#6 => some (.stdfq rd rs1 src)
  | 0x27#6 => some (.stdf rd rs1 src)
  | 0x30#6 => some (.ldc rd rs1 src)
  | 0x31#6 => some (.ldcsr rd rs1 src)
  | 0x33#6 => some (.lddc rd rs1 src)
  | 0x34#6 => some (.stc rd rs1 src)
  | 0x35#6 => some (.stcsr rd rs1 src)
  | 0x36#6 => some (.stdcq rd rs1 src)
  | 0x37#6 => some (.stdc rd rs1 src)
  | _ => none

/-- The op2 map for op = 0 (R101); UNIMP, FBfcc and CBccc are unlisted rows (49_unlisted_v8.md R372, R374), and 1, 3 and 5 are unassigned. -/
def decodeFormat2 (w : Word) : BitVec 3 → Option Instr
  | 0#3 => some (.unimp (fieldRd w) (fieldImm22 w))
  | 2#3 => some (decodeBicc (fieldA w) (fieldImm22 w) (condOfCode (fieldCond w)))
  | 4#3 => some (.sethi (fieldRd w) (fieldImm22 w))
  | 6#3 => some (.fbfcc (fieldA w) (fieldCond w) (fieldImm22 w))
  | 7#3 => some (.cbccc (fieldA w) (fieldCond w) (fieldImm22 w))
  | _ => none

/-- The row of the opcode table that a word matches first, with the word's fields; none for a reserved code (R100, R115). -/
def decodeRow (w : Word) : Option Instr :=
  match fieldOp w with
  | 0#2 => decodeFormat2 w (fieldOp2 w)
  | 1#2 => some (.call (fieldDisp30 w))
  | 2#2 => decodeArith w (fieldRd w) (fieldRs1 w) (decodeOperand2 (fieldLow w)) (fieldLow w) (fieldOp3 w)
  | _ => decodeMemory (fieldRd w) (fieldRs1 w) (decodeOperand2 (fieldLow w)) (fieldOp3 w)

/-! ### The identities -/

/-- The class of an instruction's row: the 86 identities of R104, the twelve of R360, and the 33 that R368, R372 and R374 leave Invalid. -/
def Instr.rowClass : Instr → RowClass
  | .sethi .. => .named
  | .bn .. | .be .. | .ble .. | .bl .. | .bleu .. | .bcs .. | .bneg .. | .bvs .. => .named
  | .ba .. | .bne .. | .bg .. | .bge .. | .bgu .. | .bcc .. | .bpos .. | .bvc .. => .named
  | .and .. | .andcc .. | .or .. | .orcc .. | .xor .. | .xorcc .. | .andn .. | .andncc .. | .orn .. | .orncc .. | .xnor .. | .xnorcc .. => .named
  | .add .. | .addcc .. | .sub .. | .subcc .. | .sll .. | .srl .. | .sra .. => .named
  | .umul .. | .umulcc .. | .smul .. | .smulcc .. | .udiv .. | .udivcc .. | .sdiv .. | .sdivcc .. | .mulscc .. => .named
  | .ld .. | .ldub .. | .ldsb .. | .ldd .. | .lduh .. | .ldsh .. | .st .. | .stb .. | .sth .. | .std .. => .named
  | .call .. | .jmpl .. | .rett .. => .named
  | .tn .. | .te .. | .tle .. | .tl .. | .tleu .. | .tcs .. | .tneg .. | .tvs .. => .named
  | .ta .. | .tne .. | .tg .. | .tge .. | .tgu .. | .tcc .. | .tpos .. | .tvc .. => .named
  | .save .. | .restore .. => .named
  | .rdy .. | .rdasr .. | .rdpsr .. | .rdwim .. | .rdtbr .. | .wry .. | .wrasr .. | .wrpsr .. | .wrwim .. | .wrtbr .. => .named
  | .addx .. | .addxcc .. | .subx .. | .subxcc .. | .taddcc .. | .tsubcc .. | .taddcctv .. | .tsubcctv .. => .twelve
  | .flush .. | .stbar .. | .ldstub .. | .swap .. => .twelve
  | .lda .. | .lduba .. | .lduha .. | .ldda .. | .sta .. | .stba .. | .stha .. | .stda .. => .unmapped
  | .ldsba .. | .ldsha .. | .ldstuba .. | .swapa .. => .unmapped
  | .fpop1 .. | .fpop2 .. | .cpop1 .. | .cpop2 .. => .unmapped
  | .ldf .. | .ldfsr .. | .lddf .. | .stf .. | .stfsr .. | .stdfq .. | .stdf .. => .unmapped
  | .ldc .. | .ldcsr .. | .lddc .. | .stc .. | .stcsr .. | .stdcq .. | .stdc .. => .unmapped
  | .unimp .. | .fbfcc .. | .cbccc .. => .unmapped

/-- What the words of one of the twelve rows decode to with IMPL_UNLISTED = illegal: Invalid, but for STBAR's, which are RDASR's with rs1 = 15 (R115; 20_memory.md R74). -/
def Instr.byDefault : Instr → Option Instr
  | .stbar low => some (.rdasr 0 15 (0#1 ++ low))
  | _ => none

/-- The identity the words of a row decode to under a setting of IMPL_UNLISTED; none where they are Invalid (R107, R360). -/
def Instr.identity (unlisted : Unlisted) (i : Instr) : Option Instr :=
  match i.rowClass, unlisted with
  | .named, _ => some i
  | .twelve, .v8 => some i
  | .twelve, .illegal => i.byDefault
  | .unmapped, _ => none

/-- The record of an Invalid word: its table, the code unmapped there and its fields, which a format-3 word has whether its op3 is mapped or not (R94, R96, R101, R103, R105). -/
def invalidRecord (w : Word) : InvalidRecord :=
  match fieldOp w with
  | 0#2 => .unmappedOp2 (fieldOp2 w) (fieldRd w) (fieldImm22 w)
  | 3#2 => .unmappedMemory (fieldOp3 w) (fieldRd w) (fieldRs1 w) (decodeOperand2 (fieldLow w))
  | _ => .unmappedArith (fieldOp3 w) (fieldRd w) (fieldRs1 w) (decodeOperand2 (fieldLow w))

/-- The decode function, total on all 2^32 words (R107, R108), and for a core, whose IMPL_UNLISTED never changes, a function of the word alone (R96, R112, R360). -/
def decode (unlisted : Unlisted) (w : Word) : Decoded :=
  match (decodeRow w).bind (Instr.identity unlisted) with
  | some i => .instr i
  | none => .invalid (invalidRecord w)

/-! ### Words and bytes -/

/-- The big-endian word of four bytes, the first at the lowest address (R90; 20_memory.md R62). -/
def wordOfBytes (b0 b1 b2 b3 : Byte) : Word := b0 ++ b1 ++ b2 ++ b3

/-- The instruction word at the head of a list of bytes, and the bytes after it; none where there are fewer than four. -/
def takeWord : List Byte → Option (Word × List Byte)
  | b0 :: b1 :: b2 :: b3 :: rest => some (wordOfBytes b0 b1 b2 b3, rest)
  | _ => none

/-- The decoder on bytes: one word of four bytes, and the bytes after it. -/
def decodeBytes (unlisted : Unlisted) (bytes : List Byte) : Decoded × List Byte :=
  match takeWord bytes with
  | some (w, rest) => (decode unlisted w, rest)
  | none => (.invalid .truncated, bytes)

/-- The four bytes of a word as the hardware stores them, the most significant first (20_memory.md R63). -/
def bytesOfWord (w : Word) : List Byte :=
  [w.extractLsb' 24 8, w.extractLsb' 16 8, w.extractLsb' 8 8, w.extractLsb' 0 8]

/-- The row the decoder's first stage reads from the word whose low `nbits` bits are those of `w`, numbered as spec/opcode_table.json numbers them; none for a reserved code.
DESIGN CHOICE (log 9): the table has rows that are Invalid under one or both settings of IMPL_UNLISTED, so the question is put to the stage before that setting. -/
def decodeTableWord (nbits w : Nat) : Option Instr :=
  (takeWord (bytesOfWord (BitVec.ofNat 32 (w % 2 ^ nbits)))).bind fun p => decodeRow p.1

/-! ### The encoder -/

/-- w[13:0] of a second operand (R94). -/
def encodeOperand2 : Operand2 → BitVec 14
  | .reg asi rs2 => 0#1 ++ asi ++ rs2
  | .imm simm13 => 1#1 ++ simm13

/-- Format 3 (R94). -/
def encodeFormat3 (op : BitVec 2) (rd : Reg) (op3 : BitVec 6) (rs1 : Reg) (low : BitVec 14) : Word :=
  op ++ rd ++ op3 ++ rs1 ++ low

/-- A format-3 instruction of op = 2. -/
def encodeArith (op3 : BitVec 6) (rd rs1 : Reg) (src : Operand2) : Word := encodeFormat3 2#2 rd op3 rs1 (encodeOperand2 src)

/-- A format-3 instruction of op = 3. -/
def encodeMemory (op3 : BitVec 6) (rd rs1 : Reg) (src : Operand2) : Word := encodeFormat3 3#2 rd op3 rs1 (encodeOperand2 src)

/-- The SETHI form of format 2 (R93). -/
def encodeFormat2 (rd : Reg) (op2 : BitVec 3) (imm22 : BitVec 22) : Word := 0#2 ++ rd ++ op2 ++ imm22

/-- The rd field of a branch or Ticc: one bit and a condition (R93, R95). -/
def condField (a : Bool) (cond : BitVec 4) : Reg := BitVec.ofBool a ++ cond

/-- The branch form of format 2 (R93) with op2 = 2. -/
def encodeBicc (cond : Cond) (a : Bool) (disp22 : BitVec 22) : Word := encodeFormat2 (condField a (condCode cond)) 2#3 disp22

/-- The Ticc form (R95). -/
def encodeTicc (cond : Cond) (res : Bool) (rs1 : Reg) (src : Operand2) : Word := encodeArith 0x3A#6 (condField res (condCode cond)) rs1 src

/-- The word of an instruction (R91 to R106, R115). -/
def encode : Instr → Word
  | .sethi rd imm22 => encodeFormat2 rd 4#3 imm22
  | .bn a disp22 => encodeBicc .n a disp22
  | .be a disp22 => encodeBicc .e a disp22
  | .ble a disp22 => encodeBicc .le a disp22
  | .bl a disp22 => encodeBicc .l a disp22
  | .bleu a disp22 => encodeBicc .leu a disp22
  | .bcs a disp22 => encodeBicc .cs a disp22
  | .bneg a disp22 => encodeBicc .neg a disp22
  | .bvs a disp22 => encodeBicc .vs a disp22
  | .ba a disp22 => encodeBicc .a a disp22
  | .bne a disp22 => encodeBicc .ne a disp22
  | .bg a disp22 => encodeBicc .g a disp22
  | .bge a disp22 => encodeBicc .ge a disp22
  | .bgu a disp22 => encodeBicc .gu a disp22
  | .bcc a disp22 => encodeBicc .cc a disp22
  | .bpos a disp22 => encodeBicc .pos a disp22
  | .bvc a disp22 => encodeBicc .vc a disp22
  | .and rd rs1 src => encodeArith 0x01#6 rd rs1 src
  | .andcc rd rs1 src => encodeArith 0x11#6 rd rs1 src
  | .or rd rs1 src => encodeArith 0x02#6 rd rs1 src
  | .orcc rd rs1 src => encodeArith 0x12#6 rd rs1 src
  | .xor rd rs1 src => encodeArith 0x03#6 rd rs1 src
  | .xorcc rd rs1 src => encodeArith 0x13#6 rd rs1 src
  | .andn rd rs1 src => encodeArith 0x05#6 rd rs1 src
  | .andncc rd rs1 src => encodeArith 0x15#6 rd rs1 src
  | .orn rd rs1 src => encodeArith 0x06#6 rd rs1 src
  | .orncc rd rs1 src => encodeArith 0x16#6 rd rs1 src
  | .xnor rd rs1 src => encodeArith 0x07#6 rd rs1 src
  | .xnorcc rd rs1 src => encodeArith 0x17#6 rd rs1 src
  | .add rd rs1 src => encodeArith 0x00#6 rd rs1 src
  | .addcc rd rs1 src => encodeArith 0x10#6 rd rs1 src
  | .sub rd rs1 src => encodeArith 0x04#6 rd rs1 src
  | .subcc rd rs1 src => encodeArith 0x14#6 rd rs1 src
  | .sll rd rs1 src => encodeArith 0x25#6 rd rs1 src
  | .srl rd rs1 src => encodeArith 0x26#6 rd rs1 src
  | .sra rd rs1 src => encodeArith 0x27#6 rd rs1 src
  | .umul rd rs1 src => encodeArith 0x0A#6 rd rs1 src
  | .umulcc rd rs1 src => encodeArith 0x1A#6 rd rs1 src
  | .smul rd rs1 src => encodeArith 0x0B#6 rd rs1 src
  | .smulcc rd rs1 src => encodeArith 0x1B#6 rd rs1 src
  | .udiv rd rs1 src => encodeArith 0x0E#6 rd rs1 src
  | .udivcc rd rs1 src => encodeArith 0x1E#6 rd rs1 src
  | .sdiv rd rs1 src => encodeArith 0x0F#6 rd rs1 src
  | .sdivcc rd rs1 src => encodeArith 0x1F#6 rd rs1 src
  | .mulscc rd rs1 src => encodeArith 0x24#6 rd rs1 src
  | .ld rd rs1 src => encodeMemory 0x00#6 rd rs1 src
  | .ldub rd rs1 src => encodeMemory 0x01#6 rd rs1 src
  | .ldsb rd rs1 src => encodeMemory 0x09#6 rd rs1 src
  | .ldd rd rs1 src => encodeMemory 0x03#6 rd rs1 src
  | .lduh rd rs1 src => encodeMemory 0x02#6 rd rs1 src
  | .ldsh rd rs1 src => encodeMemory 0x0A#6 rd rs1 src
  | .st rd rs1 src => encodeMemory 0x04#6 rd rs1 src
  | .stb rd rs1 src => encodeMemory 0x05#6 rd rs1 src
  | .sth rd rs1 src => encodeMemory 0x06#6 rd rs1 src
  | .std rd rs1 src => encodeMemory 0x07#6 rd rs1 src
  | .call disp30 => 1#2 ++ disp30
  | .jmpl rd rs1 src => encodeArith 0x38#6 rd rs1 src
  | .rett rd rs1 src => encodeArith 0x39#6 rd rs1 src
  | .tn res rs1 src => encodeTicc .n res rs1 src
  | .te res rs1 src => encodeTicc .e res rs1 src
  | .tle res rs1 src => encodeTicc .le res rs1 src
  | .tl res rs1 src => encodeTicc .l res rs1 src
  | .tleu res rs1 src => encodeTicc .leu res rs1 src
  | .tcs res rs1 src => encodeTicc .cs res rs1 src
  | .tneg res rs1 src => encodeTicc .neg res rs1 src
  | .tvs res rs1 src => encodeTicc .vs res rs1 src
  | .ta res rs1 src => encodeTicc .a res rs1 src
  | .tne res rs1 src => encodeTicc .ne res rs1 src
  | .tg res rs1 src => encodeTicc .g res rs1 src
  | .tge res rs1 src => encodeTicc .ge res rs1 src
  | .tgu res rs1 src => encodeTicc .gu res rs1 src
  | .tcc res rs1 src => encodeTicc .cc res rs1 src
  | .tpos res rs1 src => encodeTicc .pos res rs1 src
  | .tvc res rs1 src => encodeTicc .vc res rs1 src
  | .save rd rs1 src => encodeArith 0x3C#6 rd rs1 src
  | .restore rd rs1 src => encodeArith 0x3D#6 rd rs1 src
  | .rdy rd low => encodeFormat3 2#2 rd 0x28#6 0 low
  | .stbar low => encodeFormat3 2#2 0 0x28#6 15 (0#1 ++ low)
  | .rdasr rd asr low => encodeFormat3 2#2 rd 0x28#6 asr low
  | .rdpsr rd rs1 low => encodeFormat3 2#2 rd 0x29#6 rs1 low
  | .rdwim rd rs1 low => encodeFormat3 2#2 rd 0x2A#6 rs1 low
  | .rdtbr rd rs1 low => encodeFormat3 2#2 rd 0x2B#6 rs1 low
  | .wry rs1 src => encodeArith 0x30#6 0 rs1 src
  | .wrasr asr rs1 src => encodeArith 0x30#6 asr rs1 src
  | .wrpsr rd rs1 src => encodeArith 0x31#6 rd rs1 src
  | .wrwim rd rs1 src => encodeArith 0x32#6 rd rs1 src
  | .wrtbr rd rs1 src => encodeArith 0x33#6 rd rs1 src
  | .addx rd rs1 src => encodeArith 0x08#6 rd rs1 src
  | .addxcc rd rs1 src => encodeArith 0x18#6 rd rs1 src
  | .subx rd rs1 src => encodeArith 0x0C#6 rd rs1 src
  | .subxcc rd rs1 src => encodeArith 0x1C#6 rd rs1 src
  | .taddcc rd rs1 src => encodeArith 0x20#6 rd rs1 src
  | .tsubcc rd rs1 src => encodeArith 0x21#6 rd rs1 src
  | .taddcctv rd rs1 src => encodeArith 0x22#6 rd rs1 src
  | .tsubcctv rd rs1 src => encodeArith 0x23#6 rd rs1 src
  | .flush rd rs1 src => encodeArith 0x3B#6 rd rs1 src
  | .fpop1 rd rs1 opf rs2 => encodeFormat3 2#2 rd 0x34#6 rs1 (opf ++ rs2)
  | .fpop2 rd rs1 opf rs2 => encodeFormat3 2#2 rd 0x35#6 rs1 (opf ++ rs2)
  | .cpop1 rd rs1 opf rs2 => encodeFormat3 2#2 rd 0x36#6 rs1 (opf ++ rs2)
  | .cpop2 rd rs1 opf rs2 => encodeFormat3 2#2 rd 0x37#6 rs1 (opf ++ rs2)
  | .ldstub rd rs1 src => encodeMemory 0x0D#6 rd rs1 src
  | .swap rd rs1 src => encodeMemory 0x0F#6 rd rs1 src
  | .lda rd rs1 src => encodeMemory 0x10#6 rd rs1 src
  | .lduba rd rs1 src => encodeMemory 0x11#6 rd rs1 src
  | .lduha rd rs1 src => encodeMemory 0x12#6 rd rs1 src
  | .ldda rd rs1 src => encodeMemory 0x13#6 rd rs1 src
  | .sta rd rs1 src => encodeMemory 0x14#6 rd rs1 src
  | .stba rd rs1 src => encodeMemory 0x15#6 rd rs1 src
  | .stha rd rs1 src => encodeMemory 0x16#6 rd rs1 src
  | .stda rd rs1 src => encodeMemory 0x17#6 rd rs1 src
  | .ldsba rd rs1 src => encodeMemory 0x19#6 rd rs1 src
  | .ldsha rd rs1 src => encodeMemory 0x1A#6 rd rs1 src
  | .ldstuba rd rs1 src => encodeMemory 0x1D#6 rd rs1 src
  | .swapa rd rs1 src => encodeMemory 0x1F#6 rd rs1 src
  | .ldf rd rs1 src => encodeMemory 0x20#6 rd rs1 src
  | .ldfsr rd rs1 src => encodeMemory 0x21#6 rd rs1 src
  | .lddf rd rs1 src => encodeMemory 0x23#6 rd rs1 src
  | .stf rd rs1 src => encodeMemory 0x24#6 rd rs1 src
  | .stfsr rd rs1 src => encodeMemory 0x25#6 rd rs1 src
  | .stdfq rd rs1 src => encodeMemory 0x26#6 rd rs1 src
  | .stdf rd rs1 src => encodeMemory 0x27#6 rd rs1 src
  | .ldc rd rs1 src => encodeMemory 0x30#6 rd rs1 src
  | .ldcsr rd rs1 src => encodeMemory 0x31#6 rd rs1 src
  | .lddc rd rs1 src => encodeMemory 0x33#6 rd rs1 src
  | .stc rd rs1 src => encodeMemory 0x34#6 rd rs1 src
  | .stcsr rd rs1 src => encodeMemory 0x35#6 rd rs1 src
  | .stdcq rd rs1 src => encodeMemory 0x36#6 rd rs1 src
  | .stdc rd rs1 src => encodeMemory 0x37#6 rd rs1 src
  | .unimp rd const22 => encodeFormat2 rd 0#3 const22
  | .fbfcc a cond disp22 => encodeFormat2 (condField a cond) 6#3 disp22
  | .cbccc a cond disp22 => encodeFormat2 (condField a cond) 7#3 disp22

end Sys2Proof
end

