-- ==== Sys2Proof/Machine/State.lean ====
section
/-! DEFINITION. The state of the core (10_state.md), its traps' names (60_exceptions.md R441), the reasons a step can stop, and the state after reset. -/

namespace Sys2Proof.Machine

/-- The integer condition codes (R32). -/
structure Icc where
  n : Bool
  z : Bool
  v : Bool
  c : Bool
  deriving DecidableEq, Repr

/-- The writable fields of PSR (R33). PSR[31:24] is a parameter and PSR[19:12] is hardwired 0, so neither is stored. -/
structure Psr where
  icc : Icc
  pil : BitVec 4
  s : Bool
  ps : Bool
  et : Bool
  cwp : BitVec 5
  deriving DecidableEq, Repr

/-- The fields of TBR (R36); TBR[3:0] is always 0. -/
structure Tbr where
  tba : BitVec 20
  tt : BitVec 8
  deriving DecidableEq, Repr

/-- The stored controller status (R49). -/
inductive Status where
  | normal
  | error
  | hardFault
  deriving DecidableEq, Repr

/-- Where the host is in its protocol: created and not yet booted (70_reset_and_hazards.md R500), at a step boundary, or between the calls of one step (50_pipeline_controller.md R406).
DESIGN CHOICE (log 11): the model's own field. -/
inductive Stage where
  | created
  | boundary
  | fetched
  | decoded
  deriving DecidableEq, Repr

/-- The traps by name (60_exceptions.md R441; tagOverflow: 49_unlisted_v8.md R371). -/
inductive Trap where
  | reset
  | instructionAccessException
  | illegalInstruction
  | privilegedInstruction
  | windowOverflow
  | windowUnderflow
  | memAddressNotAligned
  | dataAccessException
  | tagOverflow
  | divisionByZero
  | interruptLevel (level : BitVec 4)
  | trapInstruction (n : BitVec 7)
  deriving DecidableEq, Repr

/-- The storage cell behind a register index (R22, R23): none for r0, an index into `globals`, or an index into `windows`. -/
inductive RegCell where
  | zero
  | global (k : Nat)
  | window (k : Nat)
  deriving DecidableEq, Repr

/-- The bytes behind the memory port, in one canonical form: addresses strictly rising and no byte equal to 0, which an unlisted address reads as (log 4). -/
abbrev Memory := List Host.Cell

/-- The machine's state. -/
structure State where
  /-- The parameters fixed by `create` (00_scope.md R5 to R8); no step writes them. -/
  cfg : Config
  /-- G[1..7], G[k+1] at index k (R20). -/
  globals : List Word
  /-- W[0 .. 16*NWIN-1] (R20). -/
  windows : List Word
  /-- The PC triple (R30). -/
  pc : Word
  npc : Word
  npc2 : Word
  psr : Psr
  /-- WIM (R35). -/
  wim : Word
  tbr : Tbr
  /-- Y (R37). -/
  y : Word
  /-- The pipeline register (R45). -/
  slot0 : Word
  slot1 : Word
  /-- The annul flag (R46). -/
  annul : Bool
  /-- The decoded-instruction latch (R47). -/
  dec : Decoded
  /-- The pending-trap set, bit tt for the trap type tt (R48; 60_exceptions.md R450, R451). -/
  pending : BitVec 256
  status : Status
  /-- The entry address of the latest boot (R52). -/
  bootEntry : Word
  stage : Stage
  /-- The bytes behind the memory port (R40). -/
  mem : Memory
  deriving DecidableEq, Repr

/-- Why a step stops. -/
inductive Fault where
  /-- The memory port answered an access of this kind, of `bytes` bytes at `addr`, with a Fault: the step's outcome is HardFault (20_memory.md R68). Raised by every fetch, load and store. Safe: the spec leaves the state after it unspecified, and the model gives none. -/
  | hardFault (kind : Access) (addr : Word) (bytes : Nat)
  /-- The status already is HardFault: a step does nothing and returns HardFault (R68). Raised by `step` and its three stages. Safe: the spec's own outcome. -/
  | alreadyHardFault
  deriving DecidableEq, Repr

/-- What the model gives no meaning to: the violated preconditions of host operations (00_scope.md R14; U16). -/
inductive Refusal where
  /-- An instruction without a meaning; raised by no arm of `exec`. Safe. -/
  | notModelled (mnemonic : String)
  /-- `step`, `fetch`, `decode` or `exec` before the first `boot` (70_reset_and_hazards.md R500). Safe. -/
  | notBooted
  /-- A stage call out of order, or `raise` between the stages of a step (50_pipeline_controller.md R406). Safe. -/
  | stageOrder
  /-- `raise` of an id the pending set has no bit for (60_exceptions.md R452). Safe. -/
  | idNotAccepted (tt : BitVec 8)
  /-- `boot` with an address that is not a multiple of 4 (70_reset_and_hazards.md R504). Safe. -/
  | bootMisaligned (entry : Word)
  /-- `create` with NWIN outside 2..32 (00_scope.md R5). Safe. -/
  | configOutOfRange
  deriving DecidableEq, Repr

/-- The state `create(config)` leaves: every stored bit zero, nothing pending, status Normal (R55, column "after power-on"; 70_reset_and_hazards.md R500).
DESIGN CHOICE (log 12): the latch `dec`, which no rule gives a value, holds the decoding of the word 0. -/
def State.powerOn (cfg : Config) : State :=
  { cfg := cfg
    globals := List.replicate 7 0
    windows := List.replicate (16 * cfg.nwin) 0
    pc := 0, npc := 0, npc2 := 0
    psr := { icc := { n := false, z := false, v := false, c := false }, pil := 0, s := false, ps := false, et := false, cwp := 0 }
    wim := 0
    tbr := { tba := 0, tt := 0 }
    y := 0, slot0 := 0, slot1 := 0, annul := false
    dec := .invalid (.unmappedOp2 0 0 0)
    pending := 0, status := .normal, bootEntry := 0, stage := .created, mem := [] }

/-- The machine right after reset: created with the default parameters and booted (R55, column "after boot(e)"; R504).
DESIGN CHOICE (log 2): the boot entry address, an argument of the host's boot, is 0. -/
def State.reset : State :=
  { State.powerOn Config.default with
    pc := 0, npc := 4, npc2 := 8
    psr := { (State.powerOn Config.default).psr with s := true }
    slot0 := 0, annul := false, pending := 0, status := .normal, bootEntry := 0, stage := .boundary }

end Sys2Proof.Machine
end

