-- ==== Sys2Proof/Machine/Flags.lean ====
section
/-! DEFINITION. The condition-code logic: the four flags of each kind of cc instruction (40_condition_codes.md R130 to R135; 49_unlisted_v8.md R362, R364, R369, R370) and the sixteen conditions (R136). `a` is the first operand, `b` the second, `r` the result. -/

namespace Sys2Proof.Machine

/-- N of a result (R131). -/
def flagN (r : Word) : Bool := r.msb

/-- Z of a result (R131). -/
def flagZ (r : Word) : Bool := r == 0

/-- V of an addition: equal operand signs and another result sign (R132). -/
def addOverflow (a b r : Word) : Bool := a.msb == b.msb && a.msb != r.msb

/-- V of a subtraction: different operand signs and a result of the second's sign (R133). -/
def subOverflow (a b r : Word) : Bool := a.msb != b.msb && b.msb == r.msb

/-- The flags of `r = a + b + carry` (R132; with a carry in: 49_unlisted_v8.md R362). -/
def iccAdd (a b : Word) (carry : Bool) (r : Word) : Icc :=
  { n := flagN r, z := flagZ r, v := addOverflow a b r, c := decide (2 ^ 32 ≤ a.toNat + b.toNat + carry.toNat) }

/-- The flags of `r = a - b - borrow`; C is the borrow (R133; with a borrow in: 49_unlisted_v8.md R364). -/
def iccSub (a b : Word) (borrow : Bool) (r : Word) : Icc :=
  { n := flagN r, z := flagZ r, v := subOverflow a b r, c := decide (a.toNat < b.toNat + borrow.toNat) }

/-- The flags of a logical or multiply cc instruction: V = C = 0 (R134, R135). -/
def iccLogic (r : Word) : Icc := { n := flagN r, z := flagZ r, v := false, c := false }

/-- The flags of a divide cc instruction (R135). -/
def iccDiv (r : Word) (overflow : Bool) : Icc := { n := flagN r, z := flagZ r, v := overflow, c := false }

/-- `tag`: a non-zero tag in either operand (49_unlisted_v8.md, before R369). -/
def tagged (a b : Word) : Bool := a.extractLsb' 0 2 != 0 || b.extractLsb' 0 2 != 0

/-- The flags of TADDcc (49_unlisted_v8.md R369). -/
def iccTaggedAdd (a b r : Word) : Icc := { iccAdd a b false r with v := addOverflow a b r || tagged a b }

/-- The flags of TSUBcc (49_unlisted_v8.md R370). -/
def iccTaggedSub (a b r : Word) : Icc := { iccSub a b false r with v := subOverflow a b r || tagged a b }

/-- The condition functions of Bicc and Ticc (R136). -/
def condHolds : Cond → Icc → Bool
  | .n, _ => false
  | .e, f => f.z
  | .le, f => f.z || (f.n ^^ f.v)
  | .l, f => f.n ^^ f.v
  | .leu, f => f.c || f.z
  | .cs, f => f.c
  | .neg, f => f.n
  | .vs, f => f.v
  | .a, _ => true
  | .ne, f => !f.z
  | .g, f => !(f.z || (f.n ^^ f.v))
  | .ge, f => !(f.n ^^ f.v)
  | .gu, f => !(f.c || f.z)
  | .cc, f => !f.c
  | .pos, f => !f.n
  | .vc, f => !f.v

end Sys2Proof.Machine
end

