-- ==== Sys2Proof/Machine/Ops.lean ====
section
/-! DEFINITION. The shared operations: registers and windows (10_state.md), memory and its port (20_memory.md), special-register words, traps, trap entry and return (60_exceptions.md), boot (70_reset_and_hazards.md) and the controller's stages 4 to 6 (50_pipeline_controller.md). -/

namespace Sys2Proof.Machine

/-- The outcome of a step, of a stage or of an instruction. -/
abbrev Result := Host.Outcome State Fault Refusal

/-- What the memory port answers: a value, or a Fault (20_memory.md R60). -/
abbrev Port (α : Type) := Except Fault α

/-! ### Registers and windows -/

/-- `phys(cwp, i)` (R23). -/
def physSlot (nwin : Nat) (cwp : BitVec 5) (i : Reg) : Nat := (16 * cwp.toNat + i.toNat - 8) % (16 * nwin)

/-- The cell of register `i` as seen with CWP = `cwp` (R22, R23). -/
def regCell (nwin : Nat) (cwp : BitVec 5) (i : Reg) : RegCell :=
  if i = 0 then .zero
  else if i.toNat < 8 then .global (i.toNat - 1)
  else .window (physSlot nwin cwp i)

/-- The word a cell holds; the cell of r0 reads 0 (R22). -/
def State.readCell (s : State) : RegCell → Word
  | .zero => 0
  | .global k => s.globals.getD k 0
  | .window k => s.windows.getD k 0

/-- Writing a cell; a write to the cell of r0 is discarded (R22). -/
def State.writeCell (s : State) (v : Word) : RegCell → State
  | .zero => s
  | .global k => { s with globals := s.globals.set k v }
  | .window k => { s with windows := s.windows.set k v }

/-- The cell of register `i` in the current window (R23: "recomputed from CWP on every access"). -/
def State.cellOf (s : State) (i : Reg) : RegCell := regCell s.cfg.nwin s.psr.cwp i

/-- `x[i]` (00_scope.md R12). -/
def State.reg (s : State) (i : Reg) : Word := s.readCell (s.cellOf i)

/-- `x[i] <- v` (00_scope.md R12). -/
def State.setReg (s : State) (i : Reg) (v : Word) : State := s.writeCell v (s.cellOf i)

/-- `x[i]@w` (00_scope.md R12). -/
def State.regAt (s : State) (w : BitVec 5) (i : Reg) : Word := s.readCell (regCell s.cfg.nwin w i)

/-- `(CWP - 1) mod NWIN` (R27). -/
def prevWindow (nwin : Nat) (cwp : BitVec 5) : BitVec 5 := BitVec.ofNat 5 ((cwp.toNat + nwin - 1) % nwin)

/-- `(CWP + 1) mod NWIN` (R28). -/
def nextWindow (nwin : Nat) (cwp : BitVec 5) : BitVec 5 := BitVec.ofNat 5 ((cwp.toNat + 1) % nwin)

/-- `WIM[w] = 1` (R27, R28, R35). -/
def State.windowInvalid (s : State) (w : BitVec 5) : Bool := s.wim.getLsbD w.toNat

def State.setCwp (s : State) (w : BitVec 5) : State := { s with psr := { s.psr with cwp := w } }

/-! ### Flags, Y, the scheduled target -/

def State.setIcc (s : State) (f : Icc) : State := { s with psr := { s.psr with icc := f } }

def State.setY (s : State) (v : Word) : State := { s with y := v }

/-- Scheduling a delayed transfer writes npc2 and nothing else (44_control_transfer.md R240). -/
def State.setNpc2 (s : State) (t : Word) : State := { s with npc2 := t }

def State.setAnnul (s : State) : State := { s with annul := true }

/-! ### Special registers as words -/

def bit (b : Bool) : BitVec 1 := BitVec.ofBool b

/-- The PSR word (R33; 48_special_regs.md R333): EC, EF and PSR[19:14] read 0. -/
def State.psrWord (s : State) : Word :=
  s.cfg.psrImpl ++ s.cfg.psrVer ++ bit s.psr.icc.n ++ bit s.psr.icc.z ++ bit s.psr.icc.v ++ bit s.psr.icc.c ++ 0#8
    ++ s.psr.pil ++ bit s.psr.s ++ bit s.psr.ps ++ bit s.psr.et ++ s.psr.cwp

/-- The TBR word `TBA << 12 | tt << 4` (R36; 48_special_regs.md R335). -/
def State.tbrWord (s : State) : Word := s.tbr.tba ++ s.tbr.tt ++ 0#4

/-- The writable fields of a PSR word (48_special_regs.md R343). -/
def psrOfWord (v : Word) : Psr :=
  { icc := { n := v.getLsbD 23, z := v.getLsbD 22, v := v.getLsbD 21, c := v.getLsbD 20 }
    pil := v.extractLsb' 8 4, s := v.getLsbD 7, ps := v.getLsbD 6, et := v.getLsbD 5, cwp := v.extractLsb' 0 5 }

def State.setPsr (s : State) (p : Psr) : State := { s with psr := p }

/-- The implemented bits of WIM, `2^NWIN - 1` (R35; 48_special_regs.md R344). -/
def wimMask (nwin : Nat) : Word := BitVec.ofNat 32 (2 ^ nwin - 1)

def State.setWim (s : State) (v : Word) : State := { s with wim := v &&& wimMask s.cfg.nwin }

/-- WRTBR writes TBA only (R36; 48_special_regs.md R345). -/
def State.setTba (s : State) (v : Word) : State := { s with tbr := { s.tbr with tba := v.extractLsb' 12 20 } }

/-! ### Memory -/

/-- The byte at an address; an address that is not listed reads as 0 (log 4). -/
def readByte : Memory → Nat → Byte
  | [], _ => 0
  | (k, v) :: rest, a => if a = k then v else readByte rest a

/-- Writing one byte, in canonical form: writing 0 removes the entry (log 4). -/
def writeByte : Memory → Nat → Byte → Memory
  | [], a, b => if b = 0 then [] else [(a, b)]
  | (k, v) :: rest, a, b =>
    if a < k then (if b = 0 then (k, v) :: rest else (a, b) :: (k, v) :: rest)
    else if a = k then (if b = 0 then rest else (a, b) :: rest)
    else (k, v) :: writeByte rest a b

/-- The canonical form from the address `lo` on: addresses strictly rising and below 2^32, no byte 0. -/
def wfFrom : Nat → Memory → Bool
  | _, [] => true
  | lo, (k, v) :: rest => decide (lo ≤ k) && decide (k < 2 ^ 32) && !(v == 0) && wfFrom (k + 1) rest

/-- The canonical form of a memory. -/
def Memory.wf (m : Memory) : Bool := wfFrom 0 m

/-- The byte at a word address (20_memory.md R62); also the host's memory peek (60_exceptions.md R489). -/
def State.byteAt (s : State) (a : Word) : Byte := readByte s.mem a.toNat

/-- The halfword at `a`, the byte at the lower address the more significant (20_memory.md R62). -/
def State.halfAt (s : State) (a : Word) : BitVec 16 := s.byteAt a ++ s.byteAt (a + 1)

/-- The word at `a`, big-endian (20_memory.md R62). -/
def State.wordAt (s : State) (a : Word) : Word := s.byteAt a ++ s.byteAt (a + 1) ++ s.byteAt (a + 2) ++ s.byteAt (a + 3)

/-- `M[a] = b` (20_memory.md R63). -/
def State.putByte (s : State) (a : Word) (b : Byte) : State := { s with mem := writeByte s.mem a.toNat b }

/-- A halfword stored big-endian (20_memory.md R63). -/
def State.putHalf (s : State) (a : Word) (v : BitVec 16) : State :=
  (s.putByte a (v.extractLsb' 8 8)).putByte (a + 1) (v.extractLsb' 0 8)

/-- A word stored big-endian (20_memory.md R63). -/
def State.putWord (s : State) (a : Word) (v : Word) : State :=
  (((s.putByte a (v.extractLsb' 24 8)).putByte (a + 1) (v.extractLsb' 16 8)).putByte (a + 2) (v.extractLsb' 8 8)).putByte
    (a + 3) (v.extractLsb' 0 8)

/-! ### The memory port -/

/-- Whether a region answers an access of this kind with a Fault. -/
def PortRegion.denies (r : PortRegion) : Access → Bool
  | .read => r.denyRead
  | .write => r.denyWrite
  | .fetch => r.denyFetch

/-- Whether the port answers the access to the bytes `a .. a+n-1` with a Fault: some region that denies the kind holds one of them (log 5). -/
def State.portFaults (s : State) (kind : Access) (a : Word) (n : Nat) : Bool :=
  s.cfg.port.any fun r => PortRegion.denies r kind && decide (r.base < a.toNat + n) && decide (a.toNat < r.base + r.size)

/-- One port operation: the Fault, or what it does (20_memory.md R60, R68). -/
def State.access (s : State) (kind : Access) (a : Word) (n : Nat) {α : Type} (v : α) : Port α :=
  if s.portFaults kind a n then .error (.hardFault kind a n) else .ok v

/-- `MemRead(a, 1)`, the port's read8. -/
def State.read8 (s : State) (a : Word) : Port Byte := s.access .read a 1 (s.byteAt a)
/-- `MemRead(a, 2)`, the port's read16. -/
def State.read16 (s : State) (a : Word) : Port (BitVec 16) := s.access .read a 2 (s.halfAt a)
/-- `MemRead(a, 4)`, the port's read32. -/
def State.read32 (s : State) (a : Word) : Port Word := s.access .read a 4 (s.wordAt a)
/-- `MemWrite(a, 1, v)`, the port's write8. -/
def State.write8 (s : State) (a : Word) (v : Byte) : Port State := s.access .write a 1 (s.putByte a v)
/-- `MemWrite(a, 2, v)`, the port's write16. -/
def State.write16 (s : State) (a : Word) (v : BitVec 16) : Port State := s.access .write a 2 (s.putHalf a v)
/-- `MemWrite(a, 4, v)`, the port's write32. -/
def State.write32 (s : State) (a : Word) (v : Word) : Port State := s.access .write a 4 (s.putWord a v)
/-- `MemFetch(a)`, the port's fetchInstruction32 (20_memory.md R64). -/
def State.fetch32 (s : State) (a : Word) : Port Word := s.access .fetch a 4 (s.wordAt a)

/-- What follows a port operation: a Fault ends the step (20_memory.md R68). -/
def thenPort {α : Type} (p : Port α) (k : α → Result) : Result :=
  match p with
  | .error f => .fault f
  | .ok v => k v

/-! ### Trap ids, priorities and the pending set -/

/-- The trap type tt (60_exceptions.md R441; 49_unlisted_v8.md R371). -/
def Trap.tt : Trap → BitVec 8
  | .reset => 0x00
  | .instructionAccessException => 0x01
  | .illegalInstruction => 0x02
  | .privilegedInstruction => 0x03
  | .windowOverflow => 0x05
  | .windowUnderflow => 0x06
  | .memAddressNotAligned => 0x07
  | .dataAccessException => 0x09
  | .tagOverflow => 0x0A
  | .divisionByZero => 0x2A
  | .interruptLevel level => 0x1#4 ++ level
  | .trapInstruction n => 1#1 ++ n

/-- The trap of a trap type, whatever the parameters (60_exceptions.md R441). -/
def Trap.ofTt (tt : BitVec 8) : Option Trap :=
  if tt.getLsbD 7 then some (.trapInstruction (tt.extractLsb' 0 7))
  else if tt.extractLsb' 4 4 = 1 then some (.interruptLevel (tt.extractLsb' 0 4))
  else [Trap.reset, .instructionAccessException, .illegalInstruction, .privilegedInstruction, .windowOverflow, .windowUnderflow,
    .memAddressNotAligned, .dataAccessException, .tagOverflow, .divisionByZero].find? fun t => Trap.tt t == tt

/-- Whether the pending set has a bit for the trap (60_exceptions.md R450, R455): interrupt level 0 does not exist, and tag_overflow exists with IMPL_UNLISTED = v8 only (49_unlisted_v8.md R371). -/
def Trap.accepted (cfg : Config) : Trap → Bool
  | .interruptLevel level => level != 0
  | .tagOverflow => cfg.implUnlisted == .v8
  | _ => true

/-- The priority number; a smaller number is a higher priority (60_exceptions.md R450; 49_unlisted_v8.md R371). -/
def Trap.priority : Trap → Nat
  | .reset => 1
  | .instructionAccessException => 5
  | .privilegedInstruction => 6
  | .illegalInstruction => 7
  | .windowOverflow => 9
  | .windowUnderflow => 9
  | .memAddressNotAligned => 10
  | .dataAccessException => 13
  | .tagOverflow => 14
  | .divisionByZero => 15
  | .trapInstruction _ => 16
  | .interruptLevel level => 32 - level.toNat

/-- "it is an interrupt" (50_pipeline_controller.md R404). -/
def Trap.isInterrupt : Trap → Bool
  | .interruptLevel _ => true
  | _ => false

/-- The ids above the software traps, by priority, ties by the smaller tt (60_exceptions.md R450). -/
def exceptionOrder : List Trap :=
  [.reset, .instructionAccessException, .privilegedInstruction, .illegalInstruction, .windowOverflow, .windowUnderflow,
    .memAddressNotAligned, .dataAccessException, .tagOverflow, .divisionByZero]

/-- The software traps, the smaller tt first (60_exceptions.md R450). -/
def softwareOrder : List Trap := (List.range 128).map fun n => Trap.trapInstruction (BitVec.ofNat 7 n)

/-- The interrupts, the highest level first (60_exceptions.md R450). -/
def interruptOrder : List Trap := (List.range 15).map fun k => Trap.interruptLevel (BitVec.ofNat 4 (15 - k))

/-- The order of the "linear highest-priority scan" (60_exceptions.md R450, R451). -/
def scanOrder : List Trap := exceptionOrder ++ softwareOrder ++ interruptOrder

/-- The bit of a trap in the pending set. -/
def pendingBit (t : Trap) : BitVec 256 := BitVec.twoPow 256 (Trap.tt t).toNat

/-- Whether a trap is pending (10_state.md R48). -/
def State.isPending (s : State) (t : Trap) : Bool := s.pending.getLsbD (Trap.tt t).toNat

/-- `raise T`: the pending bit is set and nothing else happens (60_exceptions.md R452; 00_scope.md R13). -/
def State.raise (s : State) (t : Trap) : State := { s with pending := s.pending ||| pendingBit t }

/-- Acknowledgement (60_exceptions.md R453). -/
def State.acknowledge (s : State) (t : Trap) : State := { s with pending := s.pending &&& ~~~(pendingBit t) }

/-- Eligibility at the arbitration (60_exceptions.md R462). -/
def State.eligible (s : State) : Trap → Bool
  | .interruptLevel level =>
    match s.cfg.irqGating with
    | .doc => true
    | .v8 => s.psr.et && (level == 15 || decide (s.psr.pil.toNat < level.toNat))
  | _ => true

/-- The eligible pending trap of highest priority (60_exceptions.md R460). -/
def State.selectTrap (s : State) : Option Trap :=
  scanOrder.find? fun t => Trap.accepted s.cfg t && s.isPending t && s.eligible t

/-! ### Trap entry and return -/

/-- The vector address `TBA << 12 | tt << 4` (60_exceptions.md R467). -/
def trapVector (tba : BitVec 20) (t : Trap) : Word := tba ++ Trap.tt t ++ 0#4

/-- PSR after trap entry: PS from S, S set, ET cleared, the window below without a WIM test (60_exceptions.md R466). -/
def trapPsr (nwin : Nat) (p : Psr) : Psr := { p with ps := p.s, s := true, et := false, cwp := prevWindow nwin p.cwp }

/-- The state after trap entry for `t`, `word` being what the vector fetch returned (60_exceptions.md R466): pc and npc at the arbitration go to l1 and l2 of the new window. -/
def State.enterTrap (s : State) (t : Trap) (word : Word) : State :=
  let s1 := ((s.setPsr (trapPsr s.cfg.nwin s.psr)).setReg 17 s.pc).setReg 18 s.npc
  let v := trapVector s.tbr.tba t
  State.acknowledge { s1 with tbr := { s1.tbr with tt := Trap.tt t }, pc := v, npc := v + 4, npc2 := v + 8, slot0 := word, stage := .boundary } t

/-- Taking the trap `t` (60_exceptions.md R466): a Fault on the vector fetch is a HardFault, not a nested trap. -/
def State.takeTrap (s : State) (t : Trap) : Result :=
  thenPort (s.fetch32 (trapVector s.tbr.tba t)) fun word => .next (s.enterTrap t word)

/-- The return from a trap: RETT's effect once its checks have passed (44_control_transfer.md R243). -/
def State.returnFromTrap (s : State) (window : BitVec 5) (target : Word) : State :=
  { s with psr := { s.psr with cwp := window, s := s.psr.ps, et := true }, npc2 := target }

/-- Error mode: the status changes and nothing else (60_exceptions.md R470). -/
def State.errorMode (s : State) : State := { s with status := .error, stage := .boundary }

/-! ### Boot -/

/-- The state after boot at `e`, `word` being what the prefetch returned (70_reset_and_hazards.md R504). -/
def State.booted (s : State) (e : Word) (word : Word) : State :=
  { s with
    bootEntry := e, pc := e, npc := e + 4, npc2 := e + 8
    psr := { s.psr with s := true }
    annul := false, pending := 0, status := .normal, slot0 := word, stage := .boundary }

/-- Boot at `e` with its prefetch (70_reset_and_hazards.md R504). -/
def State.bootAt (s : State) (e : Word) : Result := thenPort (s.fetch32 e) fun word => .next (s.booted e word)

/-! ### The controller -/

/-- The triple and the pipeline register move on by one instruction (50_pipeline_controller.md R405). -/
def State.advance (s : State) : State :=
  { s with pc := s.npc, npc := s.npc2, npc2 := s.npc2 + 4, slot0 := s.slot1, stage := .boundary }

/-- The annul fix-up's effect, `word` being what the re-fetch returned (50_pipeline_controller.md R403). -/
def State.skipDelaySlot (s : State) (word : Word) : State :=
  { s with slot1 := word, npc := s.npc2, npc2 := s.npc2 + 4, annul := false }

/-- Stages 5 and 6: trap arbitration, then trap handling or the advance (50_pipeline_controller.md R400, R404, R405). -/
def State.arbitrate (s : State) : Result :=
  match s.selectTrap with
  | none => .next s.advance
  | some .reset => s.bootAt s.bootEntry
  | some t => if Trap.isInterrupt t || s.psr.et then s.takeTrap t else .next s.errorMode

/-- Stages 4 to 6 of the step, on the state the execute stage left (50_pipeline_controller.md R400, R403). -/
def State.complete (s : State) : Result :=
  if s.annul then thenPort (s.fetch32 s.npc2) fun word => (s.skipDelaySlot word).arbitrate else s.arbitrate

/-- An instruction that raises `t`: the pending bit is its only effect, and the controller goes on (00_scope.md R13). -/
def State.trap (s : State) (t : Trap) : Result := (s.raise t).complete

/-- A supervisor-only effect: in user mode privileged_instruction is raised first (60_exceptions.md R443). -/
def State.privileged (s : State) (k : Result) : Result := if s.psr.s then k else s.trap .privilegedInstruction

/-- An effect that exists with IMPL_UNLISTED = v8 only (49_unlisted_v8.md R360): with `illegal` no word decodes to the instruction, and executing it is executing Invalid. -/
def State.unlisted (s : State) (k : Result) : Result :=
  match s.cfg.implUnlisted with
  | .illegal => s.trap .illegalInstruction
  | .v8 => k

end Sys2Proof.Machine
end

