-- ==== Sys2Proof/Machine/Operands.lean ====
section
/-! DEFINITION. The operand forms (30_encoding.md R97 to R99; 00_scope.md R11). -/

namespace Sys2Proof.Machine

/-- `op2val`: the sign-extended immediate, or the register (30_encoding.md R97, R98). -/
def State.operand2 (s : State) : Operand2 → Word
  | .reg _ rs2 => s.reg rs2
  | .imm simm13 => simm13.signExtend 32

/-- `x[rs1] + op2val` modulo 2^32: the effective address of a load or store, the target of JMPL and RETT, the value of SAVE and RESTORE (30_encoding.md R99). -/
def State.sum (s : State) (rs1 : Reg) (src : Operand2) : Word := s.reg rs1 + s.operand2 src

/-- The value a WR instruction writes, `x[rs1] ^ op2val` (48_special_regs.md R330). -/
def State.wrValue (s : State) (rs1 : Reg) (src : Operand2) : Word := s.reg rs1 ^^^ s.operand2 src

/-- The shift count, `op2val[4:0]` (41_alu.md R180). -/
def State.shiftCount (s : State) (src : Operand2) : Nat := ((s.operand2 src).extractLsb' 0 5).toNat

/-- `disp22 * 4`, sign-extended (30_encoding.md R97). -/
def branchOffset (disp22 : BitVec 22) : Word := disp22.signExtend 32 <<< 2

/-- `disp30 * 4` (30_encoding.md R97). -/
def callOffset (disp30 : BitVec 30) : Word := disp30 ++ 0#2

/-- `imm22 << 10` (30_encoding.md R97; 41_alu.md R150). -/
def sethiValue (imm22 : BitVec 22) : Word := imm22 ++ 0#10

/-- The software trap number `(x[rs1] + op2val)[6:0]` (46_ticc.md R290). -/
def State.trapNumber (s : State) (rs1 : Reg) (src : Operand2) : BitVec 7 := (s.sum rs1 src).extractLsb' 0 7

/-- The address is a multiple of 2 (20_memory.md R66). -/
def aligned2 (a : Word) : Bool := a.extractLsb' 0 1 == 0
/-- The address is a multiple of 4 (20_memory.md R66). -/
def aligned4 (a : Word) : Bool := a.extractLsb' 0 2 == 0
/-- The address is a multiple of 8 (20_memory.md R66). -/
def aligned8 (a : Word) : Bool := a.extractLsb' 0 3 == 0

/-- `rd[0] = 1` (43_loadstore.md R210). -/
def oddReg (rd : Reg) : Bool := rd.getLsbD 0

end Sys2Proof.Machine
end

