-- ==== Sys2Proof/Machine/Alu.lean ====
section
/-! DEFINITION. SETHI and the ALU family (41_alu.md). -/

namespace Sys2Proof.Machine

/-- Writing a result and completing the step: the shape of an instruction without flags (41_alu.md). -/
def State.finish (s : State) (rd : Reg) (r : Word) : Result := (s.setReg rd r).complete

/-- Writing a result and all four flags, and completing the step (40_condition_codes.md R130). -/
def State.finishCc (s : State) (rd : Reg) (r : Word) (f : Icc) : Result := ((s.setReg rd r).setIcc f).complete

/-- A binary operation on `x[rs1]` and `op2val`, both read before the write (30_encoding.md R98). -/
def alu (f : Word → Word → Word) (rd rs1 : Reg) (src : Operand2) (s : State) : Result :=
  s.finish rd (f (s.reg rs1) (s.operand2 src))

/-- A binary operation whose flags are computed from both operands and the result (40_condition_codes.md R130). -/
def aluCc (f : Word → Word → Word) (icc : Word → Word → Word → Icc) (rd rs1 : Reg) (src : Operand2) (s : State) : Result :=
  let a := s.reg rs1
  let b := s.operand2 src
  s.finishCc rd (f a b) (icc a b (f a b))

/-- A logical cc instruction (41_alu.md R151). -/
def logicCc (f : Word → Word → Word) (rd rs1 : Reg) (src : Operand2) (s : State) : Result :=
  aluCc f (fun _ _ r => iccLogic r) rd rs1 src s

/-- A shift of `x[rs1]` by the low five bits of the second operand (41_alu.md R180). -/
def shift (f : Word → Nat → Word) (rd rs1 : Reg) (src : Operand2) (s : State) : Result :=
  s.finish rd (f (s.reg rs1) (s.shiftCount src))

/-- The Boolean functions of the logical instructions (41_alu.md R158, R160, R162). -/
def andn (a b : Word) : Word := a &&& ~~~b
def orn (a b : Word) : Word := a ||| ~~~b
def xnor (a b : Word) : Word := ~~~(a ^^^ b)

/-- SETHI (41_alu.md R150). -/
def execSethi (rd : Reg) (imm22 : BitVec 22) (s : State) : Result := s.finish rd (sethiValue imm22)

/-- AND (41_alu.md R152). -/
def execAnd (rd rs1 : Reg) (src : Operand2) (s : State) : Result := alu (· &&& ·) rd rs1 src s

/-- ANDcc (41_alu.md R153). -/
def execAndcc (rd rs1 : Reg) (src : Operand2) (s : State) : Result := logicCc (· &&& ·) rd rs1 src s

/-- OR (41_alu.md R154). -/
def execOr (rd rs1 : Reg) (src : Operand2) (s : State) : Result := alu (· ||| ·) rd rs1 src s

/-- ORcc (41_alu.md R155). -/
def execOrcc (rd rs1 : Reg) (src : Operand2) (s : State) : Result := logicCc (· ||| ·) rd rs1 src s

/-- XOR (41_alu.md R156). -/
def execXor (rd rs1 : Reg) (src : Operand2) (s : State) : Result := alu (· ^^^ ·) rd rs1 src s

/-- XORcc (41_alu.md R157). -/
def execXorcc (rd rs1 : Reg) (src : Operand2) (s : State) : Result := logicCc (· ^^^ ·) rd rs1 src s

/-- ANDN (41_alu.md R158). -/
def execAndn (rd rs1 : Reg) (src : Operand2) (s : State) : Result := alu andn rd rs1 src s

/-- ANDNcc (41_alu.md R159). -/
def execAndncc (rd rs1 : Reg) (src : Operand2) (s : State) : Result := logicCc andn rd rs1 src s

/-- ORN (41_alu.md R160). -/
def execOrn (rd rs1 : Reg) (src : Operand2) (s : State) : Result := alu orn rd rs1 src s

/-- ORNcc (41_alu.md R161). -/
def execOrncc (rd rs1 : Reg) (src : Operand2) (s : State) : Result := logicCc orn rd rs1 src s

/-- XNOR (41_alu.md R162). -/
def execXnor (rd rs1 : Reg) (src : Operand2) (s : State) : Result := alu xnor rd rs1 src s

/-- XNORcc (41_alu.md R163). -/
def execXnorcc (rd rs1 : Reg) (src : Operand2) (s : State) : Result := logicCc xnor rd rs1 src s

/-- ADD (41_alu.md R170). -/
def execAdd (rd rs1 : Reg) (src : Operand2) (s : State) : Result := alu (· + ·) rd rs1 src s

/-- ADDcc (41_alu.md R171). -/
def execAddcc (rd rs1 : Reg) (src : Operand2) (s : State) : Result := aluCc (· + ·) (fun a b r => iccAdd a b false r) rd rs1 src s

/-- SUB (41_alu.md R172). -/
def execSub (rd rs1 : Reg) (src : Operand2) (s : State) : Result := alu (· - ·) rd rs1 src s

/-- SUBcc (41_alu.md R173). -/
def execSubcc (rd rs1 : Reg) (src : Operand2) (s : State) : Result := aluCc (· - ·) (fun a b r => iccSub a b false r) rd rs1 src s

/-- SLL (41_alu.md R181). -/
def execSll (rd rs1 : Reg) (src : Operand2) (s : State) : Result := shift (fun a k => a <<< k) rd rs1 src s

/-- SRL (41_alu.md R182). -/
def execSrl (rd rs1 : Reg) (src : Operand2) (s : State) : Result := shift (fun a k => a >>> k) rd rs1 src s

/-- SRA (41_alu.md R183). -/
def execSra (rd rs1 : Reg) (src : Operand2) (s : State) : Result := shift (fun a k => a.sshiftRight k) rd rs1 src s

end Sys2Proof.Machine
end

