-- ==== Sys2Proof/Machine/Branch.lean ====
section
/-! DEFINITION. The conditional branches (45_branches.md). -/

namespace Sys2Proof.Machine

/-- The state after the execute stage of a Bicc (45_branches.md R260, R261): a true condition schedules the target, a false one with a = 1 sets `annul`. -/
def State.branch (s : State) (c : Cond) (a : Bool) (disp22 : BitVec 22) : State :=
  if condHolds c s.psr.icc then s.setNpc2 (s.pc + branchOffset disp22)
  else if a then s.setAnnul
  else s

/-- BA's own rule: always taken; with BA_ANNUL = v8 the annul bit annuls the delay slot although the branch is taken (45_branches.md R262). -/
def State.branchAlways (s : State) (a : Bool) (disp22 : BitVec 22) : State :=
  let t := s.setNpc2 (s.pc + branchOffset disp22)
  match s.cfg.baAnnul with
  | .doc => t
  | .v8 => if a then t.setAnnul else t

/-- BN (45_branches.md R263). -/
def execBn (a : Bool) (disp22 : BitVec 22) (s : State) : Result := (s.branch .n a disp22).complete

/-- BE (45_branches.md R264). -/
def execBe (a : Bool) (disp22 : BitVec 22) (s : State) : Result := (s.branch .e a disp22).complete

/-- BLE (45_branches.md R265). -/
def execBle (a : Bool) (disp22 : BitVec 22) (s : State) : Result := (s.branch .le a disp22).complete

/-- BL (45_branches.md R266). -/
def execBl (a : Bool) (disp22 : BitVec 22) (s : State) : Result := (s.branch .l a disp22).complete

/-- BLEU (45_branches.md R267). -/
def execBleu (a : Bool) (disp22 : BitVec 22) (s : State) : Result := (s.branch .leu a disp22).complete

/-- BCS (45_branches.md R268). -/
def execBcs (a : Bool) (disp22 : BitVec 22) (s : State) : Result := (s.branch .cs a disp22).complete

/-- BNEG (45_branches.md R269). -/
def execBneg (a : Bool) (disp22 : BitVec 22) (s : State) : Result := (s.branch .neg a disp22).complete

/-- BVS (45_branches.md R270). -/
def execBvs (a : Bool) (disp22 : BitVec 22) (s : State) : Result := (s.branch .vs a disp22).complete

/-- BA (45_branches.md R271, R262). -/
def execBa (a : Bool) (disp22 : BitVec 22) (s : State) : Result := (s.branchAlways a disp22).complete

/-- BNE (45_branches.md R272). -/
def execBne (a : Bool) (disp22 : BitVec 22) (s : State) : Result := (s.branch .ne a disp22).complete

/-- BG (45_branches.md R273). -/
def execBg (a : Bool) (disp22 : BitVec 22) (s : State) : Result := (s.branch .g a disp22).complete

/-- BGE (45_branches.md R274). -/
def execBge (a : Bool) (disp22 : BitVec 22) (s : State) : Result := (s.branch .ge a disp22).complete

/-- BGU (45_branches.md R275). -/
def execBgu (a : Bool) (disp22 : BitVec 22) (s : State) : Result := (s.branch .gu a disp22).complete

/-- BCC (45_branches.md R276). -/
def execBcc (a : Bool) (disp22 : BitVec 22) (s : State) : Result := (s.branch .cc a disp22).complete

/-- BPOS (45_branches.md R277). -/
def execBpos (a : Bool) (disp22 : BitVec 22) (s : State) : Result := (s.branch .pos a disp22).complete

/-- BVC (45_branches.md R278). -/
def execBvc (a : Bool) (disp22 : BitVec 22) (s : State) : Result := (s.branch .vc a disp22).complete

end Sys2Proof.Machine
end

