-- ==== Sys2Proof/Machine/LoadStore.lean ====
section
/-! DEFINITION. Loads and stores (43_loadstore.md). -/

namespace Sys2Proof.Machine

/-- The alignment check, before any memory access (20_memory.md R66; 43_loadstore.md R210). -/
def State.requireAligned (s : State) (ok : Bool) (k : Result) : Result := if ok then k else s.trap .memAddressNotAligned

/-- The odd-rd check of the doubleword forms, before the alignment check (43_loadstore.md R210). -/
def State.requireEven (s : State) (rd : Reg) (k : Result) : Result := if oddReg rd then s.trap .illegalInstruction else k

/-- A load's register write after its port read (43_loadstore.md R210). -/
def State.loadInto (s : State) (rd : Reg) {α : Type} (p : Port α) (f : α → Word) : Result :=
  thenPort p fun v => s.finish rd (f v)

/-- The end of a store: the state its last port write left, completed. -/
def storeDone (p : Port State) : Result := thenPort p fun t => t.complete

/-- LD (43_loadstore.md R211). -/
def execLd (rd rs1 : Reg) (src : Operand2) (s : State) : Result :=
  let ea := s.sum rs1 src
  s.requireAligned (aligned4 ea) (s.loadInto rd (s.read32 ea) id)

/-- LDUB (43_loadstore.md R212). -/
def execLdub (rd rs1 : Reg) (src : Operand2) (s : State) : Result :=
  s.loadInto rd (s.read8 (s.sum rs1 src)) (BitVec.zeroExtend 32)

/-- LDSB (43_loadstore.md R213). -/
def execLdsb (rd rs1 : Reg) (src : Operand2) (s : State) : Result :=
  s.loadInto rd (s.read8 (s.sum rs1 src)) (BitVec.signExtend 32)

/-- LDUH (43_loadstore.md R215). -/
def execLduh (rd rs1 : Reg) (src : Operand2) (s : State) : Result :=
  let ea := s.sum rs1 src
  s.requireAligned (aligned2 ea) (s.loadInto rd (s.read16 ea) (BitVec.zeroExtend 32))

/-- LDSH (43_loadstore.md R216). -/
def execLdsh (rd rs1 : Reg) (src : Operand2) (s : State) : Result :=
  let ea := s.sum rs1 src
  s.requireAligned (aligned2 ea) (s.loadInto rd (s.read16 ea) (BitVec.signExtend 32))

/-- LDD (43_loadstore.md R214): both reads, then both register writes. -/
def execLdd (rd rs1 : Reg) (src : Operand2) (s : State) : Result :=
  let ea := s.sum rs1 src
  s.requireEven rd (s.requireAligned (aligned8 ea)
    (thenPort (s.read32 ea) fun v0 => thenPort (s.read32 (ea + 4)) fun v1 => ((s.setReg rd v0).setReg (rd + 1) v1).complete))

/-- ST (43_loadstore.md R217). -/
def execSt (rd rs1 : Reg) (src : Operand2) (s : State) : Result :=
  let ea := s.sum rs1 src
  s.requireAligned (aligned4 ea) (storeDone (s.write32 ea (s.reg rd)))

/-- STB (43_loadstore.md R218). -/
def execStb (rd rs1 : Reg) (src : Operand2) (s : State) : Result :=
  storeDone (s.write8 (s.sum rs1 src) ((s.reg rd).extractLsb' 0 8))

/-- STH (43_loadstore.md R219). -/
def execSth (rd rs1 : Reg) (src : Operand2) (s : State) : Result :=
  let ea := s.sum rs1 src
  s.requireAligned (aligned2 ea) (storeDone (s.write16 ea ((s.reg rd).extractLsb' 0 16)))

/-- STD (43_loadstore.md R220): the even register at the lower address, which is written first. -/
def execStd (rd rs1 : Reg) (src : Operand2) (s : State) : Result :=
  let ea := s.sum rs1 src
  s.requireEven rd (s.requireAligned (aligned8 ea)
    (thenPort (s.write32 ea (s.reg rd)) fun t => storeDone (t.write32 (ea + 4) (s.reg (rd + 1)))))

end Sys2Proof.Machine
end

