-- ==== Sys2Proof/Machine/Control.lean ====
section
/-! DEFINITION. CALL, JMPL and RETT (44_control_transfer.md). -/

namespace Sys2Proof.Machine

/-- CALL (44_control_transfer.md R241). -/
def execCall (disp30 : BitVec 30) (s : State) : Result :=
  ((s.setReg 15 s.pc).setNpc2 (s.pc + callOffset disp30)).complete

/-- JMPL (44_control_transfer.md R242): the alignment check precedes the link write. -/
def execJmpl (rd rs1 : Reg) (src : Operand2) (s : State) : Result :=
  let t := s.sum rs1 src
  s.requireAligned (aligned4 t) ((s.setReg rd s.pc).setNpc2 t).complete

/-- RETT (44_control_transfer.md R243): privilege, ET, window, alignment, in this order; rd is ignored. -/
def execRett (_rd rs1 : Reg) (src : Operand2) (s : State) : Result :=
  let n := nextWindow s.cfg.nwin s.psr.cwp
  let t := s.sum rs1 src
  s.privileged
    (if s.psr.et then s.trap .illegalInstruction
    else if s.windowInvalid n then s.trap .windowUnderflow
    else s.requireAligned (aligned4 t) (s.returnFromTrap n t).complete)

end Sys2Proof.Machine
end

