-- ==== Sys2Proof/Machine/MulDiv.lean ====
section
/-! DEFINITION. Multiply, divide and multiply-step (42_muldiv.md). -/

namespace Sys2Proof.Machine

/-- The unsigned 64-bit product (42_muldiv.md R191). -/
def umulProduct (a b : Word) : BitVec 64 := BitVec.ofNat 64 (a.toNat * b.toNat)

/-- The signed 64-bit product (42_muldiv.md R193). -/
def smulProduct (a b : Word) : BitVec 64 := BitVec.ofInt 64 (a.toInt * b.toInt)

/-- The low word of a product, which goes to rd (42_muldiv.md R190). -/
def lowWord (p : BitVec 64) : Word := p.extractLsb' 0 32

/-- The high word of a product, which goes to Y (42_muldiv.md R190). -/
def highWord (p : BitVec 64) : Word := p.extractLsb' 32 32

/-- A multiply: low word to rd, high word to Y, also when rd = 0 (42_muldiv.md R190). -/
def mul (product : Word → Word → BitVec 64) (rd rs1 : Reg) (src : Operand2) (s : State) : Result :=
  let p := product (s.reg rs1) (s.operand2 src)
  ((s.setReg rd (lowWord p)).setY (highWord p)).complete

/-- A multiply with flags from the low word (42_muldiv.md R190; 40_condition_codes.md R135). -/
def mulCc (product : Word → Word → BitVec 64) (rd rs1 : Reg) (src : Operand2) (s : State) : Result :=
  let p := product (s.reg rs1) (s.operand2 src)
  (((s.setReg rd (lowWord p)).setY (highWord p)).setIcc (iccLogic (lowWord p))).complete

/-- A divide's result: the word written to rd, and whether the quotient did not fit (42_muldiv.md R195). -/
structure Quotient where
  word : Word
  overflow : Bool
  deriving DecidableEq, Repr

/-- `floor(u(Y ++ a) / u(b))`, clamped to 2^32-1 (42_muldiv.md R196). -/
def udivQuotient (y a b : Word) : Quotient :=
  let q := (y ++ a).toNat / b.toNat
  if 2 ^ 32 ≤ q then { word := 0xFFFFFFFF, overflow := true } else { word := BitVec.ofNat 32 q, overflow := false }

/-- `trunc(s64(Y ++ a) / s(b))`, clamped to -2^31 .. 2^31-1 (42_muldiv.md R198). -/
def sdivQuotient (y a b : Word) : Quotient :=
  let q := (y ++ a).toInt.tdiv b.toInt
  if 2 ^ 31 ≤ q then { word := 0x7FFFFFFF, overflow := true }
  else if q < -2 ^ 31 then { word := 0x80000000, overflow := true }
  else { word := BitVec.ofInt 32 q, overflow := false }

/-- A divide: division_by_zero for a zero divisor; otherwise the quotient to rd, and Y unchanged (42_muldiv.md R195). -/
def div (quotient : Word → Word → Word → Quotient) (rd rs1 : Reg) (src : Operand2) (s : State) : Result :=
  let b := s.operand2 src
  if b = 0 then s.trap .divisionByZero else s.finish rd (quotient s.y (s.reg rs1) b).word

/-- A divide with flags (42_muldiv.md R195; 40_condition_codes.md R135). -/
def divCc (quotient : Word → Word → Word → Quotient) (rd rs1 : Reg) (src : Operand2) (s : State) : Result :=
  let b := s.operand2 src
  let q := quotient s.y (s.reg rs1) b
  if b = 0 then s.trap .divisionByZero else s.finishCc rd q.word (iccDiv q.word q.overflow)

/-- UMUL (42_muldiv.md R191). -/
def execUmul (rd rs1 : Reg) (src : Operand2) (s : State) : Result := mul umulProduct rd rs1 src s

/-- UMULcc (42_muldiv.md R192). -/
def execUmulcc (rd rs1 : Reg) (src : Operand2) (s : State) : Result := mulCc umulProduct rd rs1 src s

/-- SMUL (42_muldiv.md R193). -/
def execSmul (rd rs1 : Reg) (src : Operand2) (s : State) : Result := mul smulProduct rd rs1 src s

/-- SMULcc (42_muldiv.md R194). -/
def execSmulcc (rd rs1 : Reg) (src : Operand2) (s : State) : Result := mulCc smulProduct rd rs1 src s

/-- UDIV (42_muldiv.md R196). -/
def execUdiv (rd rs1 : Reg) (src : Operand2) (s : State) : Result := div udivQuotient rd rs1 src s

/-- UDIVcc (42_muldiv.md R197). -/
def execUdivcc (rd rs1 : Reg) (src : Operand2) (s : State) : Result := divCc udivQuotient rd rs1 src s

/-- SDIV (42_muldiv.md R198). -/
def execSdiv (rd rs1 : Reg) (src : Operand2) (s : State) : Result := div sdivQuotient rd rs1 src s

/-- SDIVcc (42_muldiv.md R199). -/
def execSdivcc (rd rs1 : Reg) (src : Operand2) (s : State) : Result := divCc sdivQuotient rd rs1 src s

/-- `o1` of MULScc: a shifted right one place with N xor V entering at bit 31 (42_muldiv.md R200). -/
def mulsccFirst (f : Icc) (a : Word) : Word := bit (f.n ^^ f.v) ++ a.extractLsb' 1 31

/-- `o2` of MULScc: b if Y[0] = 1, else 0 (42_muldiv.md R200). -/
def mulsccSecond (y b : Word) : Word := if y.getLsbD 0 then b else 0

/-- Y after MULScc: shifted right one place with a[0] entering at bit 31 (42_muldiv.md R200). -/
def mulsccY (y a : Word) : Word := a.extractLsb' 0 1 ++ y.extractLsb' 1 31

/-- MULScc (42_muldiv.md R200): all values are read before any write. -/
def execMulscc (rd rs1 : Reg) (src : Operand2) (s : State) : Result :=
  let a := s.reg rs1
  let o1 := mulsccFirst s.psr.icc a
  let o2 := mulsccSecond s.y (s.operand2 src)
  let r := o1 + o2
  (((s.setReg rd r).setY (mulsccY s.y a)).setIcc (iccAdd o1 o2 false r)).complete

end Sys2Proof.Machine
end

