-- ==== Sys2Proof/Machine/Special.lean ====
section
/-! DEFINITION. The special-register instructions (48_special_regs.md). -/

namespace Sys2Proof.Machine

/-- RDY (48_special_regs.md R331). -/
def execRdy (rd : Reg) (_low : BitVec 14) (s : State) : Result := s.finish rd s.y

/-- RDASR of a register number other than 0: the core has no ASR (48_special_regs.md R332; 10_state.md R38). -/
def execRdasr (_rd _asr : Reg) (_low : BitVec 14) (s : State) : Result := s.privileged (s.trap .illegalInstruction)

/-- RDPSR (48_special_regs.md R333). -/
def execRdpsr (rd _rs1 : Reg) (_low : BitVec 14) (s : State) : Result := s.privileged (s.finish rd s.psrWord)

/-- RDWIM (48_special_regs.md R334). -/
def execRdwim (rd _rs1 : Reg) (_low : BitVec 14) (s : State) : Result := s.privileged (s.finish rd s.wim)

/-- RDTBR (48_special_regs.md R335). -/
def execRdtbr (rd _rs1 : Reg) (_low : BitVec 14) (s : State) : Result := s.privileged (s.finish rd s.tbrWord)

/-- WRY (48_special_regs.md R341). -/
def execWry (rs1 : Reg) (src : Operand2) (s : State) : Result := (s.setY (s.wrValue rs1 src)).complete

/-- WRASR of a register number other than 0 (48_special_regs.md R342). -/
def execWrasr (_asr _rs1 : Reg) (_src : Operand2) (s : State) : Result := s.privileged (s.trap .illegalInstruction)

/-- WRPSR (48_special_regs.md R343): a CWP field of NWIN or more raises illegal_instruction; the arbitration of this step already uses the new ET and PIL. -/
def execWrpsr (_rd rs1 : Reg) (src : Operand2) (s : State) : Result :=
  let p := psrOfWord (s.wrValue rs1 src)
  s.privileged (if s.cfg.nwin ≤ p.cwp.toNat then s.trap .illegalInstruction else (s.setPsr p).complete)

/-- WRWIM (48_special_regs.md R344). -/
def execWrwim (_rd rs1 : Reg) (src : Operand2) (s : State) : Result := s.privileged (s.setWim (s.wrValue rs1 src)).complete

/-- WRTBR (48_special_regs.md R345). -/
def execWrtbr (_rd rs1 : Reg) (src : Operand2) (s : State) : Result := s.privileged (s.setTba (s.wrValue rs1 src)).complete

end Sys2Proof.Machine
end

