-- ==== Sys2Proof/Machine/Ticc.lean ====
section
/-! DEFINITION. The trap instructions (46_ticc.md). -/

namespace Sys2Proof.Machine

/-- Ticc (46_ticc.md R290): a true condition raises trap_instruction with the low seven bits of the operand sum; a false one does nothing. -/
def ticc (c : Cond) (rs1 : Reg) (src : Operand2) (s : State) : Result :=
  if condHolds c s.psr.icc then s.trap (.trapInstruction (s.trapNumber rs1 src)) else s.complete

/-- TN (46_ticc.md R291). -/
def execTn (_res : Bool) (rs1 : Reg) (src : Operand2) (s : State) : Result := ticc .n rs1 src s

/-- TE (46_ticc.md R292). -/
def execTe (_res : Bool) (rs1 : Reg) (src : Operand2) (s : State) : Result := ticc .e rs1 src s

/-- TLE (46_ticc.md R293). -/
def execTle (_res : Bool) (rs1 : Reg) (src : Operand2) (s : State) : Result := ticc .le rs1 src s

/-- TL (46_ticc.md R294). -/
def execTl (_res : Bool) (rs1 : Reg) (src : Operand2) (s : State) : Result := ticc .l rs1 src s

/-- TLEU (46_ticc.md R295). -/
def execTleu (_res : Bool) (rs1 : Reg) (src : Operand2) (s : State) : Result := ticc .leu rs1 src s

/-- TCS (46_ticc.md R296). -/
def execTcs (_res : Bool) (rs1 : Reg) (src : Operand2) (s : State) : Result := ticc .cs rs1 src s

/-- TNEG (46_ticc.md R297). -/
def execTneg (_res : Bool) (rs1 : Reg) (src : Operand2) (s : State) : Result := ticc .neg rs1 src s

/-- TVS (46_ticc.md R298). -/
def execTvs (_res : Bool) (rs1 : Reg) (src : Operand2) (s : State) : Result := ticc .vs rs1 src s

/-- TA (46_ticc.md R299). -/
def execTa (_res : Bool) (rs1 : Reg) (src : Operand2) (s : State) : Result := ticc .a rs1 src s

/-- TNE (46_ticc.md R300). -/
def execTne (_res : Bool) (rs1 : Reg) (src : Operand2) (s : State) : Result := ticc .ne rs1 src s

/-- TG (46_ticc.md R301). -/
def execTg (_res : Bool) (rs1 : Reg) (src : Operand2) (s : State) : Result := ticc .g rs1 src s

/-- TGE (46_ticc.md R302). -/
def execTge (_res : Bool) (rs1 : Reg) (src : Operand2) (s : State) : Result := ticc .ge rs1 src s

/-- TGU (46_ticc.md R303). -/
def execTgu (_res : Bool) (rs1 : Reg) (src : Operand2) (s : State) : Result := ticc .gu rs1 src s

/-- TCC (46_ticc.md R304). -/
def execTcc (_res : Bool) (rs1 : Reg) (src : Operand2) (s : State) : Result := ticc .cc rs1 src s

/-- TPOS (46_ticc.md R305). -/
def execTpos (_res : Bool) (rs1 : Reg) (src : Operand2) (s : State) : Result := ticc .pos rs1 src s

/-- TVC (46_ticc.md R306). -/
def execTvc (_res : Bool) (rs1 : Reg) (src : Operand2) (s : State) : Result := ticc .vc rs1 src s

end Sys2Proof.Machine
end

