-- ==== Sys2Proof/Machine/Unlisted.lean ====
section
/-! DEFINITION. The SPARC V8 rows the document never names (49_unlisted_v8.md), and Invalid. -/

namespace Sys2Proof.Machine

/-- Executing a word that decodes to Invalid (30_encoding.md R108). -/
def execInvalid (s : State) : Result := s.trap .illegalInstruction

/-- `a + b + C` (49_unlisted_v8.md R361). -/
def addCarry (s : State) (a b : Word) : Word := a + b + BitVec.ofNat 32 s.psr.icc.c.toNat

/-- `a - b - C` (49_unlisted_v8.md R363). -/
def subCarry (s : State) (a b : Word) : Word := a - b - BitVec.ofNat 32 s.psr.icc.c.toNat

/-- ADDX (49_unlisted_v8.md R361). -/
def execAddx (rd rs1 : Reg) (src : Operand2) (s : State) : Result := s.unlisted (alu (addCarry s) rd rs1 src s)

/-- ADDXcc (49_unlisted_v8.md R362). -/
def execAddxcc (rd rs1 : Reg) (src : Operand2) (s : State) : Result :=
  s.unlisted (aluCc (addCarry s) (fun a b r => iccAdd a b s.psr.icc.c r) rd rs1 src s)

/-- SUBX (49_unlisted_v8.md R363). -/
def execSubx (rd rs1 : Reg) (src : Operand2) (s : State) : Result := s.unlisted (alu (subCarry s) rd rs1 src s)

/-- SUBXcc (49_unlisted_v8.md R364). -/
def execSubxcc (rd rs1 : Reg) (src : Operand2) (s : State) : Result :=
  s.unlisted (aluCc (subCarry s) (fun a b r => iccSub a b s.psr.icc.c r) rd rs1 src s)

/-- TADDcc (49_unlisted_v8.md R369). -/
def execTaddcc (rd rs1 : Reg) (src : Operand2) (s : State) : Result := s.unlisted (aluCc (· + ·) iccTaggedAdd rd rs1 src s)

/-- TSUBcc (49_unlisted_v8.md R370). -/
def execTsubcc (rd rs1 : Reg) (src : Operand2) (s : State) : Result := s.unlisted (aluCc (· - ·) iccTaggedSub rd rs1 src s)

/-- A tagged operation that traps instead of setting V (49_unlisted_v8.md R371). -/
def trapOnV (f : Word → Word → Word) (icc : Word → Word → Word → Icc) (rd rs1 : Reg) (src : Operand2) (s : State) : Result :=
  let a := s.reg rs1
  let b := s.operand2 src
  if (icc a b (f a b)).v then s.trap .tagOverflow else aluCc f icc rd rs1 src s

/-- TADDccTV (49_unlisted_v8.md R371). -/
def execTaddcctv (rd rs1 : Reg) (src : Operand2) (s : State) : Result := s.unlisted (trapOnV (· + ·) iccTaggedAdd rd rs1 src s)

/-- TSUBccTV (49_unlisted_v8.md R371). -/
def execTsubcctv (rd rs1 : Reg) (src : Operand2) (s : State) : Result := s.unlisted (trapOnV (· - ·) iccTaggedSub rd rs1 src s)

/-- FLUSH: no operation with IMPL_UNLISTED = v8; the address is not checked and no port access is made (49_unlisted_v8.md R365). -/
def execFlush (_rd _rs1 : Reg) (_src : Operand2) (s : State) : Result := s.unlisted s.complete

/-- STBAR: RDASR 15 by default; no operation in either mode with IMPL_UNLISTED = v8 (49_unlisted_v8.md R366). -/
def execStbar (low : BitVec 13) (s : State) : Result :=
  match s.cfg.implUnlisted with
  | .illegal => execRdasr 0 15 (0#1 ++ low) s
  | .v8 => s.complete

/-- LDSTUB (49_unlisted_v8.md R367): if the write Faults rd is not written. -/
def execLdstub (rd rs1 : Reg) (src : Operand2) (s : State) : Result :=
  let ea := s.sum rs1 src
  s.unlisted (thenPort (s.read8 ea) fun v => thenPort (s.write8 ea 0xFF) fun t => t.finish rd (v.zeroExtend 32))

/-- SWAP (49_unlisted_v8.md R373). -/
def execSwap (rd rs1 : Reg) (src : Operand2) (s : State) : Result :=
  let ea := s.sum rs1 src
  s.unlisted (s.requireAligned (aligned4 ea)
    (thenPort (s.read32 ea) fun v => thenPort (s.write32 ea (s.reg rd)) fun t => t.finish rd v))

/-! The rows that are Invalid under both settings of IMPL_UNLISTED: illegal_instruction, whatever the mode. -/

/-- FPop1 (49_unlisted_v8.md R372). -/
def execFpop1 (_rd _rs1 : Reg) (_opf : BitVec 9) (_rs2 : Reg) (s : State) : Result := execInvalid s

/-- FPop2 (49_unlisted_v8.md R372). -/
def execFpop2 (_rd _rs1 : Reg) (_opf : BitVec 9) (_rs2 : Reg) (s : State) : Result := execInvalid s

/-- CPop1 (49_unlisted_v8.md R372). -/
def execCpop1 (_rd _rs1 : Reg) (_opf : BitVec 9) (_rs2 : Reg) (s : State) : Result := execInvalid s

/-- CPop2 (49_unlisted_v8.md R372). -/
def execCpop2 (_rd _rs1 : Reg) (_opf : BitVec 9) (_rs2 : Reg) (s : State) : Result := execInvalid s

/-- LDA (49_unlisted_v8.md R368). -/
def execLda (_rd _rs1 : Reg) (_src : Operand2) (s : State) : Result := execInvalid s

/-- LDUBA (49_unlisted_v8.md R368). -/
def execLduba (_rd _rs1 : Reg) (_src : Operand2) (s : State) : Result := execInvalid s

/-- LDUHA (49_unlisted_v8.md R368). -/
def execLduha (_rd _rs1 : Reg) (_src : Operand2) (s : State) : Result := execInvalid s

/-- LDDA (49_unlisted_v8.md R368). -/
def execLdda (_rd _rs1 : Reg) (_src : Operand2) (s : State) : Result := execInvalid s

/-- STA (49_unlisted_v8.md R368). -/
def execSta (_rd _rs1 : Reg) (_src : Operand2) (s : State) : Result := execInvalid s

/-- STBA (49_unlisted_v8.md R368). -/
def execStba (_rd _rs1 : Reg) (_src : Operand2) (s : State) : Result := execInvalid s

/-- STHA (49_unlisted_v8.md R368). -/
def execStha (_rd _rs1 : Reg) (_src : Operand2) (s : State) : Result := execInvalid s

/-- STDA (49_unlisted_v8.md R368). -/
def execStda (_rd _rs1 : Reg) (_src : Operand2) (s : State) : Result := execInvalid s

/-- LDSBA (49_unlisted_v8.md R368). -/
def execLdsba (_rd _rs1 : Reg) (_src : Operand2) (s : State) : Result := execInvalid s

/-- LDSHA (49_unlisted_v8.md R368). -/
def execLdsha (_rd _rs1 : Reg) (_src : Operand2) (s : State) : Result := execInvalid s

/-- LDSTUBA (49_unlisted_v8.md R368). -/
def execLdstuba (_rd _rs1 : Reg) (_src : Operand2) (s : State) : Result := execInvalid s

/-- SWAPA (49_unlisted_v8.md R368). -/
def execSwapa (_rd _rs1 : Reg) (_src : Operand2) (s : State) : Result := execInvalid s

/-- LDF (49_unlisted_v8.md R372). -/
def execLdf (_rd _rs1 : Reg) (_src : Operand2) (s : State) : Result := execInvalid s

/-- LDFSR (49_unlisted_v8.md R372). -/
def execLdfsr (_rd _rs1 : Reg) (_src : Operand2) (s : State) : Result := execInvalid s

/-- LDDF (49_unlisted_v8.md R372). -/
def execLddf (_rd _rs1 : Reg) (_src : Operand2) (s : State) : Result := execInvalid s

/-- STF (49_unlisted_v8.md R372). -/
def execStf (_rd _rs1 : Reg) (_src : Operand2) (s : State) : Result := execInvalid s

/-- STFSR (49_unlisted_v8.md R372). -/
def execStfsr (_rd _rs1 : Reg) (_src : Operand2) (s : State) : Result := execInvalid s

/-- STDFQ (49_unlisted_v8.md R372). -/
def execStdfq (_rd _rs1 : Reg) (_src : Operand2) (s : State) : Result := execInvalid s

/-- STDF (49_unlisted_v8.md R372). -/
def execStdf (_rd _rs1 : Reg) (_src : Operand2) (s : State) : Result := execInvalid s

/-- LDC (49_unlisted_v8.md R372). -/
def execLdc (_rd _rs1 : Reg) (_src : Operand2) (s : State) : Result := execInvalid s

/-- LDCSR (49_unlisted_v8.md R372). -/
def execLdcsr (_rd _rs1 : Reg) (_src : Operand2) (s : State) : Result := execInvalid s

/-- LDDC (49_unlisted_v8.md R372). -/
def execLddc (_rd _rs1 : Reg) (_src : Operand2) (s : State) : Result := execInvalid s

/-- STC (49_unlisted_v8.md R372). -/
def execStc (_rd _rs1 : Reg) (_src : Operand2) (s : State) : Result := execInvalid s

/-- STCSR (49_unlisted_v8.md R372). -/
def execStcsr (_rd _rs1 : Reg) (_src : Operand2) (s : State) : Result := execInvalid s

/-- STDCQ (49_unlisted_v8.md R372). -/
def execStdcq (_rd _rs1 : Reg) (_src : Operand2) (s : State) : Result := execInvalid s

/-- STDC (49_unlisted_v8.md R372). -/
def execStdc (_rd _rs1 : Reg) (_src : Operand2) (s : State) : Result := execInvalid s

/-- UNIMP (49_unlisted_v8.md R374). -/
def execUnimp (_rd : Reg) (_const22 : BitVec 22) (s : State) : Result := execInvalid s

/-- FBfcc (49_unlisted_v8.md R372). -/
def execFbfcc (_a : Bool) (_cond : BitVec 4) (_disp22 : BitVec 22) (s : State) : Result := execInvalid s

/-- CBccc (49_unlisted_v8.md R372). -/
def execCbccc (_a : Bool) (_cond : BitVec 4) (_disp22 : BitVec 22) (s : State) : Result := execInvalid s

end Sys2Proof.Machine
end

