-- ==== Sys2Proof/Machine/Window.lean ====
section
/-! DEFINITION. SAVE and RESTORE (47_window.md). -/

namespace Sys2Proof.Machine

/-- SAVE (47_window.md R320; 10_state.md R27): the sources are read in the old window, rd is written in the new one. -/
def execSave (rd rs1 : Reg) (src : Operand2) (s : State) : Result :=
  let n := prevWindow s.cfg.nwin s.psr.cwp
  if s.windowInvalid n then s.trap .windowOverflow else (s.setCwp n).finish rd (s.sum rs1 src)

/-- RESTORE (47_window.md R321; 10_state.md R28). -/
def execRestore (rd rs1 : Reg) (src : Operand2) (s : State) : Result :=
  let n := nextWindow s.cfg.nwin s.psr.cwp
  if s.windowInvalid n then s.trap .windowUnderflow else (s.setCwp n).finish rd (s.sum rs1 src)

end Sys2Proof.Machine
end

