-- ==== Sys2Proof/Machine/Dispatch.lean ====
section
/-! DEFINITION. The dispatcher: one arm for each constructor of Instr. `exec` is the spec's `exec` call, stages 3 to 6 of the step (50_pipeline_controller.md R400, R406; log 8). -/

namespace Sys2Proof.Machine

def exec (i : Instr) (s : State) : Host.Outcome State Fault Refusal :=
  match i with
  | .sethi rd imm22 => Sys2Proof.Machine.execSethi rd imm22 s
  | .bn a disp22 => Sys2Proof.Machine.execBn a disp22 s
  | .be a disp22 => Sys2Proof.Machine.execBe a disp22 s
  | .ble a disp22 => Sys2Proof.Machine.execBle a disp22 s
  | .bl a disp22 => Sys2Proof.Machine.execBl a disp22 s
  | .bleu a disp22 => Sys2Proof.Machine.execBleu a disp22 s
  | .bcs a disp22 => Sys2Proof.Machine.execBcs a disp22 s
  | .bneg a disp22 => Sys2Proof.Machine.execBneg a disp22 s
  | .bvs a disp22 => Sys2Proof.Machine.execBvs a disp22 s
  | .ba a disp22 => Sys2Proof.Machine.execBa a disp22 s
  | .bne a disp22 => Sys2Proof.Machine.execBne a disp22 s
  | .bg a disp22 => Sys2Proof.Machine.execBg a disp22 s
  | .bge a disp22 => Sys2Proof.Machine.execBge a disp22 s
  | .bgu a disp22 => Sys2Proof.Machine.execBgu a disp22 s
  | .bcc a disp22 => Sys2Proof.Machine.execBcc a disp22 s
  | .bpos a disp22 => Sys2Proof.Machine.execBpos a disp22 s
  | .bvc a disp22 => Sys2Proof.Machine.execBvc a disp22 s
  | .and rd rs1 src => Sys2Proof.Machine.execAnd rd rs1 src s
  | .andcc rd rs1 src => Sys2Proof.Machine.execAndcc rd rs1 src s
  | .or rd rs1 src => Sys2Proof.Machine.execOr rd rs1 src s
  | .orcc rd rs1 src => Sys2Proof.Machine.execOrcc rd rs1 src s
  | .xor rd rs1 src => Sys2Proof.Machine.execXor rd rs1 src s
  | .xorcc rd rs1 src => Sys2Proof.Machine.execXorcc rd rs1 src s
  | .andn rd rs1 src => Sys2Proof.Machine.execAndn rd rs1 src s
  | .andncc rd rs1 src => Sys2Proof.Machine.execAndncc rd rs1 src s
  | .orn rd rs1 src => Sys2Proof.Machine.execOrn rd rs1 src s
  | .orncc rd rs1 src => Sys2Proof.Machine.execOrncc rd rs1 src s
  | .xnor rd rs1 src => Sys2Proof.Machine.execXnor rd rs1 src s
  | .xnorcc rd rs1 src => Sys2Proof.Machine.execXnorcc rd rs1 src s
  | .add rd rs1 src => Sys2Proof.Machine.execAdd rd rs1 src s
  | .addcc rd rs1 src => Sys2Proof.Machine.execAddcc rd rs1 src s
  | .sub rd rs1 src => Sys2Proof.Machine.execSub rd rs1 src s
  | .subcc rd rs1 src => Sys2Proof.Machine.execSubcc rd rs1 src s
  | .sll rd rs1 src => Sys2Proof.Machine.execSll rd rs1 src s
  | .srl rd rs1 src => Sys2Proof.Machine.execSrl rd rs1 src s
  | .sra rd rs1 src => Sys2Proof.Machine.execSra rd rs1 src s
  | .umul rd rs1 src => Sys2Proof.Machine.execUmul rd rs1 src s
  | .umulcc rd rs1 src => Sys2Proof.Machine.execUmulcc rd rs1 src s
  | .smul rd rs1 src => Sys2Proof.Machine.execSmul rd rs1 src s
  | .smulcc rd rs1 src => Sys2Proof.Machine.execSmulcc rd rs1 src s
  | .udiv rd rs1 src => Sys2Proof.Machine.execUdiv rd rs1 src s
  | .udivcc rd rs1 src => Sys2Proof.Machine.execUdivcc rd rs1 src s
  | .sdiv rd rs1 src => Sys2Proof.Machine.execSdiv rd rs1 src s
  | .sdivcc rd rs1 src => Sys2Proof.Machine.execSdivcc rd rs1 src s
  | .mulscc rd rs1 src => Sys2Proof.Machine.execMulscc rd rs1 src s
  | .ld rd rs1 src => Sys2Proof.Machine.execLd rd rs1 src s
  | .ldub rd rs1 src => Sys2Proof.Machine.execLdub rd rs1 src s
  | .ldsb rd rs1 src => Sys2Proof.Machine.execLdsb rd rs1 src s
  | .ldd rd rs1 src => Sys2Proof.Machine.execLdd rd rs1 src s
  | .lduh rd rs1 src => Sys2Proof.Machine.execLduh rd rs1 src s
  | .ldsh rd rs1 src => Sys2Proof.Machine.execLdsh rd rs1 src s
  | .st rd rs1 src => Sys2Proof.Machine.execSt rd rs1 src s
  | .stb rd rs1 src => Sys2Proof.Machine.execStb rd rs1 src s
  | .sth rd rs1 src => Sys2Proof.Machine.execSth rd rs1 src s
  | .std rd rs1 src => Sys2Proof.Machine.execStd rd rs1 src s
  | .call disp30 => Sys2Proof.Machine.execCall disp30 s
  | .jmpl rd rs1 src => Sys2Proof.Machine.execJmpl rd rs1 src s
  | .rett rd rs1 src => Sys2Proof.Machine.execRett rd rs1 src s
  | .tn res rs1 src => Sys2Proof.Machine.execTn res rs1 src s
  | .te res rs1 src => Sys2Proof.Machine.execTe res rs1 src s
  | .tle res rs1 src => Sys2Proof.Machine.execTle res rs1 src s
  | .tl res rs1 src => Sys2Proof.Machine.execTl res rs1 src s
  | .tleu res rs1 src => Sys2Proof.Machine.execTleu res rs1 src s
  | .tcs res rs1 src => Sys2Proof.Machine.execTcs res rs1 src s
  | .tneg res rs1 src => Sys2Proof.Machine.execTneg res rs1 src s
  | .tvs res rs1 src => Sys2Proof.Machine.execTvs res rs1 src s
  | .ta res rs1 src => Sys2Proof.Machine.execTa res rs1 src s
  | .tne res rs1 src => Sys2Proof.Machine.execTne res rs1 src s
  | .tg res rs1 src => Sys2Proof.Machine.execTg res rs1 src s
  | .tge res rs1 src => Sys2Proof.Machine.execTge res rs1 src s
  | .tgu res rs1 src => Sys2Proof.Machine.execTgu res rs1 src s
  | .tcc res rs1 src => Sys2Proof.Machine.execTcc res rs1 src s
  | .tpos res rs1 src => Sys2Proof.Machine.execTpos res rs1 src s
  | .tvc res rs1 src => Sys2Proof.Machine.execTvc res rs1 src s
  | .save rd rs1 src => Sys2Proof.Machine.execSave rd rs1 src s
  | .restore rd rs1 src => Sys2Proof.Machine.execRestore rd rs1 src s
  | .rdy rd low => Sys2Proof.Machine.execRdy rd low s
  | .stbar low => Sys2Proof.Machine.execStbar low s
  | .rdasr rd asr low => Sys2Proof.Machine.execRdasr rd asr low s
  | .rdpsr rd rs1 low => Sys2Proof.Machine.execRdpsr rd rs1 low s
  | .rdwim rd rs1 low => Sys2Proof.Machine.execRdwim rd rs1 low s
  | .rdtbr rd rs1 low => Sys2Proof.Machine.execRdtbr rd rs1 low s
  | .wry rs1 src => Sys2Proof.Machine.execWry rs1 src s
  | .wrasr asr rs1 src => Sys2Proof.Machine.execWrasr asr rs1 src s
  | .wrpsr rd rs1 src => Sys2Proof.Machine.execWrpsr rd rs1 src s
  | .wrwim rd rs1 src => Sys2Proof.Machine.execWrwim rd rs1 src s
  | .wrtbr rd rs1 src => Sys2Proof.Machine.execWrtbr rd rs1 src s
  | .addx rd rs1 src => Sys2Proof.Machine.execAddx rd rs1 src s
  | .addxcc rd rs1 src => Sys2Proof.Machine.execAddxcc rd rs1 src s
  | .subx rd rs1 src => Sys2Proof.Machine.execSubx rd rs1 src s
  | .subxcc rd rs1 src => Sys2Proof.Machine.execSubxcc rd rs1 src s
  | .taddcc rd rs1 src => Sys2Proof.Machine.execTaddcc rd rs1 src s
  | .tsubcc rd rs1 src => Sys2Proof.Machine.execTsubcc rd rs1 src s
  | .taddcctv rd rs1 src => Sys2Proof.Machine.execTaddcctv rd rs1 src s
  | .tsubcctv rd rs1 src => Sys2Proof.Machine.execTsubcctv rd rs1 src s
  | .flush rd rs1 src => Sys2Proof.Machine.execFlush rd rs1 src s
  | .fpop1 rd rs1 opf rs2 => Sys2Proof.Machine.execFpop1 rd rs1 opf rs2 s
  | .fpop2 rd rs1 opf rs2 => Sys2Proof.Machine.execFpop2 rd rs1 opf rs2 s
  | .cpop1 rd rs1 opf rs2 => Sys2Proof.Machine.execCpop1 rd rs1 opf rs2 s
  | .cpop2 rd rs1 opf rs2 => Sys2Proof.Machine.execCpop2 rd rs1 opf rs2 s
  | .ldstub rd rs1 src => Sys2Proof.Machine.execLdstub rd rs1 src s
  | .swap rd rs1 src => Sys2Proof.Machine.execSwap rd rs1 src s
  | .lda rd rs1 src => Sys2Proof.Machine.execLda rd rs1 src s
  | .lduba rd rs1 src => Sys2Proof.Machine.execLduba rd rs1 src s
  | .lduha rd rs1 src => Sys2Proof.Machine.execLduha rd rs1 src s
  | .ldda rd rs1 src => Sys2Proof.Machine.execLdda rd rs1 src s
  | .sta rd rs1 src => Sys2Proof.Machine.execSta rd rs1 src s
  | .stba rd rs1 src => Sys2Proof.Machine.execStba rd rs1 src s
  | .stha rd rs1 src => Sys2Proof.Machine.execStha rd rs1 src s
  | .stda rd rs1 src => Sys2Proof.Machine.execStda rd rs1 src s
  | .ldsba rd rs1 src => Sys2Proof.Machine.execLdsba rd rs1 src s
  | .ldsha rd rs1 src => Sys2Proof.Machine.execLdsha rd rs1 src s
  | .ldstuba rd rs1 src => Sys2Proof.Machine.execLdstuba rd rs1 src s
  | .swapa rd rs1 src => Sys2Proof.Machine.execSwapa rd rs1 src s
  | .ldf rd rs1 src => Sys2Proof.Machine.execLdf rd rs1 src s
  | .ldfsr rd rs1 src => Sys2Proof.Machine.execLdfsr rd rs1 src s
  | .lddf rd rs1 src => Sys2Proof.Machine.execLddf rd rs1 src s
  | .stf rd rs1 src => Sys2Proof.Machine.execStf rd rs1 src s
  | .stfsr rd rs1 src => Sys2Proof.Machine.execStfsr rd rs1 src s
  | .stdfq rd rs1 src => Sys2Proof.Machine.execStdfq rd rs1 src s
  | .stdf rd rs1 src => Sys2Proof.Machine.execStdf rd rs1 src s
  | .ldc rd rs1 src => Sys2Proof.Machine.execLdc rd rs1 src s
  | .ldcsr rd rs1 src => Sys2Proof.Machine.execLdcsr rd rs1 src s
  | .lddc rd rs1 src => Sys2Proof.Machine.execLddc rd rs1 src s
  | .stc rd rs1 src => Sys2Proof.Machine.execStc rd rs1 src s
  | .stcsr rd rs1 src => Sys2Proof.Machine.execStcsr rd rs1 src s
  | .stdcq rd rs1 src => Sys2Proof.Machine.execStdcq rd rs1 src s
  | .stdc rd rs1 src => Sys2Proof.Machine.execStdc rd rs1 src s
  | .unimp rd const22 => Sys2Proof.Machine.execUnimp rd const22 s
  | .fbfcc a cond disp22 => Sys2Proof.Machine.execFbfcc a cond disp22 s
  | .cbccc a cond disp22 => Sys2Proof.Machine.execCbccc a cond disp22 s

end Sys2Proof.Machine
end

