-- ==== Sys2Proof/Machine/Stages.lean ====
section
/-! DEFINITION. The step's stages and the host's calls (50_pipeline_controller.md R400 to R406; 60_exceptions.md R452, R489; 70_reset_and_hazards.md R500, R504). -/

namespace Sys2Proof.Machine

/-- Calling one host operation after another. -/
def andThen (r : Result) (k : State → Result) : Result :=
  match r with
  | .next s => k s
  | .fault f => .fault f
  | .refused q => .refused q

/-! ### The three stages -/

/-- Stage 1: the word at npc goes to slot 1 (R401). -/
def State.fetchStage (s : State) : Result := thenPort (s.fetch32 s.npc) fun word => .next { s with slot1 := word, stage := .fetched }

/-- Stage 2: the staged word is decoded into the latch, to an identity of this core's tables or to Invalid (R402; 30_encoding.md R107). -/
def State.decodeStage (s : State) : State := { s with dec := decode s.cfg.implUnlisted s.slot0, stage := .decoded }

/-- Stages 3 to 6: the decoded instruction executes and the controller completes the step (R402; Invalid: 30_encoding.md R108). -/
def execDecoded (d : Decoded) (s : State) : Result :=
  match d with
  | .instr i => exec i s
  | .invalid _ => execInvalid s

/-! ### The host's calls -/

/-- The test at the top of `step`, `fetch`, `decode` and `exec`: a terminal status does nothing (R400, R406; 20_memory.md R68; 60_exceptions.md R470), a core that was never booted cannot be stepped (70_reset_and_hazards.md R500), and a call out of order is refused (R406). -/
def State.whenRunning (s : State) (wanted : Stage) (k : Result) : Result :=
  match s.status with
  | .error => .next s
  | .hardFault => .fault .alreadyHardFault
  | .normal =>
    if s.stage = .created then .refused .notBooted
    else if s.stage = wanted then k
    else .refused .stageOrder

/-- The host's `fetch`. -/
def callFetch (s : State) : Result := s.whenRunning .boundary s.fetchStage

/-- The host's `decode`. -/
def callDecode (s : State) : Result := s.whenRunning .fetched (.next s.decodeStage)

/-- The host's `exec`. -/
def callExec (s : State) : Result := s.whenRunning .decoded (execDecoded s.dec s)

/-- "`step` is the three in that order" (R406). -/
def callStep (s : State) : Result := andThen (andThen (callFetch s) callDecode) callExec

/-- The host's `create(config)`: NWIN must be in 2..32 (00_scope.md R5; 70_reset_and_hazards.md R500). -/
def callCreate (cfg : Config) : Result := if cfg.valid then .next (State.powerOn cfg) else .refused .configOutOfRange

/-- The host's `boot(e)`, from any status (70_reset_and_hazards.md R504). -/
def callBoot (e : Word) (s : State) : Result := if aligned4 e then s.bootAt e else .refused (.bootMisaligned e)

/-- The host's `raise(id)`: an accepted id's bit is set, whatever the status; not between the stages of a step (60_exceptions.md R452; 50_pipeline_controller.md R406). -/
def callRaise (tt : BitVec 8) (s : State) : Result :=
  if s.stage = .fetched ∨ s.stage = .decoded then .refused .stageOrder
  else
    match Trap.ofTt tt with
    | some t => if Trap.accepted s.cfg t then .next (s.raise t) else .refused (.idNotAccepted tt)
    | none => .refused (.idNotAccepted tt)

/-! ### The host's accessors (60_exceptions.md R489): they change no state; the memory peek is `State.byteAt` -/

def getReg (s : State) (i : Reg) : Word := s.reg i
def getCCn (s : State) : Bool := s.psr.icc.n
def getCCz (s : State) : Bool := s.psr.icc.z
def getCCv (s : State) : Bool := s.psr.icc.v
def getCCc (s : State) : Bool := s.psr.icc.c
def getPC (s : State) : Word := s.pc
def getY (s : State) : Word := s.y

end Sys2Proof.Machine
end

