-- ==== Sys2Proof/Machine/Step.lean ====
section
/-! DEFINITION. The step (50_pipeline_controller.md R400), and how the host places one instruction before it. -/

namespace Sys2Proof.Machine

/-- One `step()` (R400, R406). -/
def step (s : State) : Host.Outcome State Fault Refusal := callStep s

/-- `s` with the word of `nbits` bits `w` in memory at pc and staged in slot 0, where boot, the advance and trap entry put the word they fetched from pc (10_state.md R45), and with the core running at a step boundary, so that the next step executes it (log 14). -/
def State.withFetchWord (s : State) (nbits w : Nat) : State :=
  let word := BitVec.ofNat 32 (w % 2 ^ nbits)
  { s.putWord s.pc word with slot0 := word, status := .normal, stage := .boundary }

end Sys2Proof.Machine
end

