-- ==== Sys2Proof/Safety.lean ====
section
/-! DEFINITION. The terms the statements use: the invariant of a step boundary, the hypotheses under which an instruction completes or traps, what a completed instruction and a trap entry leave, and which instructions may write which state. -/

namespace Sys2Proof.Machine

/-! ### Hypotheses on a state -/

/-- The register file has the size R20 gives it and CWP names a window of it (10_state.md R20, R25). -/
def State.sized (s : State) : Bool :=
  s.cfg.valid && s.globals.length == 7 && s.windows.length == 16 * s.cfg.nwin && decide (s.psr.cwp.toNat < s.cfg.nwin)

/-- No annulment is in progress and the arbitration would find nothing: what the execute stage starts from when the host has raised nothing that is eligible (50_pipeline_controller.md R404, R407). -/
def State.quiet (s : State) : Bool := !s.annul && s.selectTrap == none

/-- `State.quiet` as the arbitration sees it once the instruction has written ET and PIL (60_exceptions.md R462): for RETT and WRPSR. -/
def State.quietWith (s : State) (et : Bool) (pil : BitVec 4) : Bool :=
  ({ s with psr := { s.psr with et := et, pil := pil } } : State).quiet

/-- The arbitration would select `t` if the instruction raised it. -/
def State.selects (s : State) (t : Trap) : Bool := !s.annul && (s.raise t).selectTrap == some t

/-- An instruction that raises `t` ends in the trap's entry: `t` is selected, traps are enabled and the vector can be fetched (60_exceptions.md R466). -/
def State.canEnter (s : State) (t : Trap) : Bool :=
  s.sized && s.selects t && s.psr.et && !s.portFaults .fetch (trapVector s.tbr.tba t) 4

/-- The traps an instruction can raise (60_exceptions.md R442 to R448; 49_unlisted_v8.md R371). -/
def Trap.synchronous : Trap → Bool
  | .illegalInstruction | .privilegedInstruction | .windowOverflow | .windowUnderflow | .memAddressNotAligned => true
  | .tagOverflow | .divisionByZero | .trapInstruction _ => true
  | .reset | .instructionAccessException | .dataAccessException | .interruptLevel _ => false

/-! ### The invariant of a step boundary -/

/-- What holds at every step boundary (10_state.md R20, R25, R31, R35, R46, R48; 50_pipeline_controller.md R407). -/
structure State.Inv (s : State) : Prop where
  /-- R20, R25. -/
  sized : s.sized = true
  /-- WIM bits NWIN..31 are 0 (R35). -/
  wim : s.wim &&& ~~~wimMask s.cfg.nwin = 0
  /-- The PC triple is a multiple of 4 (R31). -/
  pc : aligned4 s.pc = true
  npc : aligned4 s.npc = true
  npc2 : aligned4 s.npc2 = true
  /-- npc2 = npc + 4 while the status is Normal (R31). -/
  next : s.status = .normal → s.npc2 = s.npc + 4
  /-- The annul flag is 0 (R46). -/
  annul : s.annul = false
  /-- Only accepted ids are pending (R48; 60_exceptions.md R450). -/
  pending : ∀ tt : BitVec 8, s.pending.getLsbD tt.toNat = true → ∃ t, Trap.ofTt tt = some t ∧ Trap.accepted s.cfg t = true
  /-- The entry address is a multiple of 4 (00_scope.md R9). -/
  bootEntry : aligned4 s.bootEntry = true
  /-- The memory keeps its canonical form (log 4). -/
  mem : Memory.wf s.mem = true
  /-- The core has been booted and no step is in progress (log 11). -/
  stage : s.stage = .boundary

/-! ### What an instruction leaves -/

/-- The part that every instruction completing without a trap has in common: the triple and the pipeline register move on to `target` after the delay slot (50_pipeline_controller.md R405), and no controller state changes. -/
structure Proceeds (s t : State) (target : Word) : Prop where
  pc : t.pc = s.npc
  npc : t.npc = target
  npc2 : t.npc2 = target + 4
  slot0 : t.slot0 = s.slot1
  slot1 : t.slot1 = s.slot1
  annul : t.annul = false
  pending : t.pending = s.pending
  status : t.status = s.status
  bootEntry : t.bootEntry = s.bootEntry
  cfg : t.cfg = s.cfg
  dec : t.dec = s.dec

/-- `x[rd]` (of `t`'s window) holds `v`, or 0 when rd = 0, and every other register cell is as in `s` (10_state.md R22, R23). -/
structure Writes (s t : State) (rd : Reg) (v : Word) : Prop where
  value : t.reg rd = if rd = 0 then 0 else v
  others : ∀ c : RegCell, c ≠ t.cellOf rd → t.readCell c = s.readCell c

/-- No register cell differs. -/
def SameRegs (s t : State) : Prop := ∀ c : RegCell, t.readCell c = s.readCell c

/-- No byte of memory differs. -/
def SameBytes (s t : State) : Prop := ∀ a : Word, t.byteAt a = s.byteAt a

/-- PSR, WIM, TBR and Y are as before. -/
structure SameSpecials (s t : State) : Prop where
  psr : t.psr = s.psr
  wim : t.wim = s.wim
  tbr : t.tbr = s.tbr
  y : t.y = s.y

/-- `r` is a next state in which the instruction wrote `v` to `x[rd]`, left the flags `icc` and the Y register `y`, and changed nothing else but the triple and the pipeline register, which moved on. -/
def GivesReg (r : Result) (s : State) (rd : Reg) (v : Word) (icc : Icc) (y : Word) : Prop :=
  ∃ t, r = .next t ∧ Proceeds s t s.npc2 ∧ Writes s t rd v ∧ SameBytes s t ∧ t.psr = { s.psr with icc := icc } ∧
    t.wim = s.wim ∧ t.tbr = s.tbr ∧ t.y = y

/-- `r` is a next state in which the instruction wrote its own address to `x[rd]` and the next instruction but one is at `target` (44_control_transfer.md R240). -/
def GivesLink (r : Result) (s : State) (rd : Reg) (target : Word) : Prop :=
  ∃ t, r = .next t ∧ Proceeds s t target ∧ Writes s t rd s.pc ∧ SameSpecials s t ∧ SameBytes s t

/-- `r` is a next state in which the instruction had no effect but the move of the triple to `target`. -/
def GivesMove (r : Result) (s : State) (target : Word) : Prop :=
  ∃ t, r = .next t ∧ Proceeds s t target ∧ SameRegs s t ∧ SameSpecials s t ∧ SameBytes s t

/-- `r` is a next state in which the `n` bytes from `a` on hold the big-endian bytes of `v`, every other byte is as before, and no register changed. -/
def GivesStore (r : Result) (s : State) (a : Word) (n : Nat) (v : Nat) : Prop :=
  ∃ t, r = .next t ∧ Proceeds s t s.npc2 ∧ SameRegs s t ∧ SameSpecials s t ∧
    (∀ k, k < n → t.byteAt (a + BitVec.ofNat 32 k) = BitVec.ofNat 8 (v / 2 ^ (8 * (n - 1 - k)))) ∧
    ∀ b : Word, (∀ k, k < n → b ≠ a + BitVec.ofNat 32 k) → t.byteAt b = s.byteAt b

/-- `r` is a next state in which the window moved to `w` and `v` was written to `x[rd]` of that window (47_window.md R320, R321). -/
def GivesWindow (r : Result) (s : State) (w : Nat) (rd : Reg) (v : Word) : Prop :=
  ∃ t, r = .next t ∧ Proceeds s t s.npc2 ∧ t.psr.cwp.toNat = w ∧ t.psr = { s.psr with cwp := t.psr.cwp } ∧ Writes s t rd v ∧
    SameBytes s t ∧ t.wim = s.wim ∧ t.tbr = s.tbr ∧ t.y = s.y

/-- `r` is a next state whose special registers are those given and in which nothing else changed but the triple and the pipeline register, which moved on to `target`. -/
def GivesSpecials (r : Result) (s : State) (target : Word) (psr : Psr) (wim : Word) (tbr : Tbr) (y : Word) : Prop :=
  ∃ t, r = .next t ∧ Proceeds s t target ∧ SameRegs s t ∧ SameBytes s t ∧ t.psr = psr ∧ t.wim = wim ∧ t.tbr = tbr ∧ t.y = y

/-- `u` is `s` after the entry of trap `t` by an instruction that had no other effect (60_exceptions.md R466, R467; 00_scope.md R13). -/
structure TrapEntered (s u : State) (t : Trap) : Prop where
  ps : u.psr.ps = s.psr.s
  supervisor : u.psr.s = true
  et : u.psr.et = false
  cwp : u.psr.cwp.toNat = (s.psr.cwp.toNat + s.cfg.nwin - 1) % s.cfg.nwin
  icc : u.psr.icc = s.psr.icc
  pil : u.psr.pil = s.psr.pil
  l1 : u.reg 17 = s.pc
  l2 : u.reg 18 = s.npc
  others : ∀ c : RegCell, c ≠ u.cellOf 17 → c ≠ u.cellOf 18 → u.readCell c = s.readCell c
  tba : u.tbr.tba = s.tbr.tba
  tt : u.tbr.tt = Trap.tt t
  pc : u.pc = s.tbr.tba ++ Trap.tt t ++ 0#4
  npc : u.npc = u.pc + 4
  npc2 : u.npc2 = u.pc + 8
  slot0 : u.slot0 = s.wordAt u.pc
  /-- The stale word (R466). -/
  slot1 : u.slot1 = s.slot1
  pending : ∀ k : Nat, u.pending.getLsbD k = (s.pending.getLsbD k && decide (k ≠ (Trap.tt t).toNat))
  wim : u.wim = s.wim
  y : u.y = s.y
  bytes : SameBytes s u
  annul : u.annul = false
  status : u.status = s.status
  bootEntry : u.bootEntry = s.bootEntry
  cfg : u.cfg = s.cfg
  dec : u.dec = s.dec

/-- `r` is the entry of trap `t` from `s`. -/
def EntersTrap (r : Result) (s : State) (t : Trap) : Prop := ∃ u, r = .next u ∧ TrapEntered s u t

/-- `r` is error mode with `t` pending: nothing else changed (60_exceptions.md R470). -/
def EntersError (r : Result) (s : State) (t : Trap) : Prop :=
  r = .next { s with pending := s.pending ||| BitVec.twoPow 256 (Trap.tt t).toNat, status := .error, stage := .boundary }

/-- `r` is what raising `t` with no other effect leads to (00_scope.md R13). -/
def Raises (r : Result) (s : State) (t : Trap) : Prop := r = (s.raise t).complete

end Sys2Proof.Machine

/-! ### Which instruction may write what -/

namespace Sys2Proof

/-- The instructions that write the condition codes (10_state.md R32; 49_unlisted_v8.md R362, R364, R369 to R371). -/
def Instr.writesIcc : Instr → Bool
  | .andcc .. | .orcc .. | .xorcc .. | .andncc .. | .orncc .. | .xnorcc .. | .addcc .. | .subcc .. => true
  | .umulcc .. | .smulcc .. | .udivcc .. | .sdivcc .. | .mulscc .. | .wrpsr .. => true
  | .addxcc .. | .subxcc .. | .taddcc .. | .tsubcc .. | .taddcctv .. | .tsubcctv .. => true
  | _ => false

/-- The instructions that write Y (10_state.md R37). -/
def Instr.writesY : Instr → Bool
  | .umul .. | .umulcc .. | .smul .. | .smulcc .. | .mulscc .. | .wry .. => true
  | _ => false

/-- The instruction that writes WIM (10_state.md R35). -/
def Instr.writesWim : Instr → Bool
  | .wrwim .. => true
  | _ => false

/-- The instruction that writes TBA (10_state.md R36). -/
def Instr.writesTba : Instr → Bool
  | .wrtbr .. => true
  | _ => false

/-- The instruction that writes PSR as a whole, and alone PIL (10_state.md R34). -/
def Instr.writesPsr : Instr → Bool
  | .wrpsr .. => true
  | _ => false

/-- The instructions that write CWP (10_state.md R25). -/
def Instr.writesCwp : Instr → Bool
  | .save .. | .restore .. | .rett .. | .wrpsr .. => true
  | _ => false

/-- The instructions that write memory (43_loadstore.md R217 to R220; 49_unlisted_v8.md R367, R373). -/
def Instr.writesMemory : Instr → Bool
  | .st .. | .stb .. | .sth .. | .std .. | .ldstub .. | .swap .. => true
  | _ => false

/-- The registers an instruction names for writing, and r15 for CALL (10_state.md R26). -/
def Instr.destinations : Instr → List Reg
  | .and rd _ _ | .andcc rd _ _ | .or rd _ _ | .orcc rd _ _ | .xor rd _ _ | .xorcc rd _ _ => [rd]
  | .andn rd _ _ | .andncc rd _ _ | .orn rd _ _ | .orncc rd _ _ | .xnor rd _ _ | .xnorcc rd _ _ => [rd]
  | .add rd _ _ | .addcc rd _ _ | .sub rd _ _ | .subcc rd _ _ | .sll rd _ _ | .srl rd _ _ | .sra rd _ _ => [rd]
  | .umul rd _ _ | .umulcc rd _ _ | .smul rd _ _ | .smulcc rd _ _ | .mulscc rd _ _ => [rd]
  | .udiv rd _ _ | .udivcc rd _ _ | .sdiv rd _ _ | .sdivcc rd _ _ => [rd]
  | .addx rd _ _ | .addxcc rd _ _ | .subx rd _ _ | .subxcc rd _ _ => [rd]
  | .taddcc rd _ _ | .tsubcc rd _ _ | .taddcctv rd _ _ | .tsubcctv rd _ _ => [rd]
  | .ld rd _ _ | .ldub rd _ _ | .ldsb rd _ _ | .lduh rd _ _ | .ldsh rd _ _ | .ldstub rd _ _ | .swap rd _ _ => [rd]
  | .ldd rd _ _ => [rd, rd + 1]
  | .jmpl rd _ _ | .save rd _ _ | .restore rd _ _ => [rd]
  | .rdy rd _ | .rdpsr rd _ _ | .rdwim rd _ _ | .rdtbr rd _ _ => [rd]
  | .sethi rd _ => [rd]
  | .call _ => [15]
  | _ => []

end Sys2Proof
end

