-- ==== Sys2Proof/Certificates/Slice0/Obligations.lean ====
section
/-! DEFINITION. The statements about the model, for the provers. Each formalises rules of spec/ named in its docstring and in OBLIGATIONS.json; the terms they share are Sys2Proof/Safety.lean's. -/

open Sys2Proof Sys2Proof.Machine

/-- Every mapped instruction decodes back from its word, and every unmapped one's word is Invalid (R91, R92, R93, R94, R95, R102, R103, R105, R106, R107, R115, R360).
The field positions and opcode numbers are the spec's decisions D1, D2 and D5, the parameter its D3. That ignored fields are kept is the model's choice (log 10), and so are the instructions of the unlisted rows, which decodeRow answers (log 9). -/
def Obligations.EncodeThenDecode : Prop :=
  (∀ i : Instr, i.wellFormed = true →
    decodeRow (encode i) = some i ∧
    (∀ u : Unlisted, i.rowClass = .named ∨ (i.rowClass = .twelve ∧ u = .v8) → decode u (encode i) = .instr i) ∧
    (∀ u : Unlisted, i.rowClass = .unmapped ∨ (i.rowClass = .twelve ∧ u = .illegal ∧ ∀ low, i ≠ .stbar low) →
      ∃ c, decode u (encode i) = .invalid c)) ∧
  ∀ low : BitVec 13, decode .illegal (encode (.stbar low)) = .instr (.rdasr 0 15 (0#1 ++ low))

/-- Every decoded word is the word of the instruction it decodes to (R91, R92, R93, R94, R95, R96, R104, R106, R107, R109, R115, R360).
The field positions and opcode numbers are the spec's decisions D1, D2 and D5, the parameter its D3. That ignored fields are kept is the model's choice (log 10), and so are the instructions of the unlisted rows, which decodeRow answers (log 9). -/
def Obligations.DecodeThenEncode : Prop :=
  (∀ (u : Unlisted) (w : Word) (i : Instr), decode u w = .instr i →
    encode i = w ∧ (i.rowClass = .named ∨ (i.rowClass = .twelve ∧ u = .v8)) ∧
    ((i.wellFormed = true ∧ decodeRow w = some i) ∨
      (u = .illegal ∧ ∃ low : BitVec 13, i = .rdasr 0 15 (0#1 ++ low) ∧ decodeRow w = some (.stbar low)))) ∧
  ∀ (w : Word) (i : Instr), decodeRow w = some i → i.wellFormed = true ∧ encode i = w

/-- The Invalid words are exactly the rule's, keep their fields, and executing Invalid raises illegal_instruction only (R94, R101, R103, R105, R108, R360, R368, R374, R375).
The numbers are the spec's from general knowledge (D2), the parameter its decision D3, the rows without a setting its D42. Only asi must be in Invalid's record by a rule (R94, R368); the rest of what it holds is the model's choice (log 9). -/
def Obligations.InvalidWordsExactly : Prop :=
  (∀ w : Word, (∃ c, decode .illegal w = .invalid c) ↔
    ((fieldOp w = 0#2 ∧ fieldOp2 w ∉ [2#3, 4#3]) ∨
      (fieldOp w = 2#2 ∧ fieldOp3 w ∉ [0x00#6, 0x01#6, 0x02#6, 0x03#6, 0x04#6, 0x05#6, 0x06#6, 0x07#6, 0x0A#6, 0x0B#6, 0x0E#6, 0x0F#6,
        0x10#6, 0x11#6, 0x12#6, 0x13#6, 0x14#6, 0x15#6, 0x16#6, 0x17#6, 0x1A#6, 0x1B#6, 0x1E#6, 0x1F#6, 0x24#6, 0x25#6, 0x26#6, 0x27#6,
        0x28#6, 0x29#6, 0x2A#6, 0x2B#6, 0x30#6, 0x31#6, 0x32#6, 0x33#6, 0x38#6, 0x39#6, 0x3A#6, 0x3C#6, 0x3D#6]) ∨
      (fieldOp w = 3#2 ∧ fieldOp3 w ∉ [0x00#6, 0x01#6, 0x02#6, 0x03#6, 0x04#6, 0x05#6, 0x06#6, 0x07#6, 0x09#6, 0x0A#6]))) ∧
  (∀ w : Word, (∃ c, decode .v8 w = .invalid c) ↔
    ((fieldOp w = 0#2 ∧ fieldOp2 w ∉ [2#3, 4#3]) ∨
      (fieldOp w = 2#2 ∧ fieldOp3 w ∉ [0x00#6, 0x01#6, 0x02#6, 0x03#6, 0x04#6, 0x05#6, 0x06#6, 0x07#6, 0x0A#6, 0x0B#6, 0x0E#6, 0x0F#6,
        0x10#6, 0x11#6, 0x12#6, 0x13#6, 0x14#6, 0x15#6, 0x16#6, 0x17#6, 0x1A#6, 0x1B#6, 0x1E#6, 0x1F#6, 0x24#6, 0x25#6, 0x26#6, 0x27#6,
        0x28#6, 0x29#6, 0x2A#6, 0x2B#6, 0x30#6, 0x31#6, 0x32#6, 0x33#6, 0x38#6, 0x39#6, 0x3A#6, 0x3C#6, 0x3D#6,
        0x08#6, 0x0C#6, 0x18#6, 0x1C#6, 0x20#6, 0x21#6, 0x22#6, 0x23#6, 0x3B#6]) ∨
      (fieldOp w = 3#2 ∧ fieldOp3 w ∉ [0x00#6, 0x01#6, 0x02#6, 0x03#6, 0x04#6, 0x05#6, 0x06#6, 0x07#6, 0x09#6, 0x0A#6, 0x0D#6, 0x0F#6]))) ∧
  (∀ (u : Unlisted) (w : Word) (c : InvalidRecord), decode u w = .invalid c →
    (fieldOp w = 0#2 → c = .unmappedOp2 (fieldOp2 w) (fieldRd w) (fieldImm22 w)) ∧
    ∀ src : Operand2, src = (if w.getLsbD 13 then .imm (w.extractLsb' 0 13) else .reg (w.extractLsb' 5 8) (w.extractLsb' 0 5)) →
      (fieldOp w = 2#2 → c = .unmappedArith (fieldOp3 w) (fieldRd w) (fieldRs1 w) src) ∧
      (fieldOp w = 3#2 → c = .unmappedMemory (fieldOp3 w) (fieldRd w) (fieldRs1 w) src)) ∧
  ∀ (c : InvalidRecord) (s : State), Raises (execDecoded (.invalid c) s) s .illegalInstruction

/-- With IMPL_UNLISTED = illegal every word outside the decoder's tables raises illegal_instruction (R101, R103, R104, R105, R108, R360).
The spec's decisions D2 and D3. -/
def Obligations.UnmappedWordsRaiseByDefault : Prop :=
  ∀ (w : Word) (s : State), s.cfg.implUnlisted = .illegal → s.slot0 = w →
    if fieldOp w = 1#2 ∨ (fieldOp w = 0#2 ∧ fieldOp2 w ∈ [2#3, 4#3]) ∨
      (fieldOp w = 2#2 ∧ fieldOp3 w ∈ [0x00#6, 0x01#6, 0x02#6, 0x03#6, 0x04#6, 0x05#6, 0x06#6, 0x07#6, 0x0A#6, 0x0B#6, 0x0E#6, 0x0F#6,
        0x10#6, 0x11#6, 0x12#6, 0x13#6, 0x14#6, 0x15#6, 0x16#6, 0x17#6, 0x1A#6, 0x1B#6, 0x1E#6, 0x1F#6, 0x24#6, 0x25#6, 0x26#6, 0x27#6,
        0x28#6, 0x29#6, 0x2A#6, 0x2B#6, 0x30#6, 0x31#6, 0x32#6, 0x33#6, 0x38#6, 0x39#6, 0x3A#6, 0x3C#6, 0x3D#6]) ∨
      (fieldOp w = 3#2 ∧ fieldOp3 w ∈ [0x00#6, 0x01#6, 0x02#6, 0x03#6, 0x04#6, 0x05#6, 0x06#6, 0x07#6, 0x09#6, 0x0A#6])
    then ∃ i, s.decodeStage.dec = .instr i ∧ i.rowClass = .named
    else (∃ c, s.decodeStage.dec = .invalid c) ∧ Raises (execDecoded s.decodeStage.dec s) s .illegalInstruction

/-- Words the spec writes out decode to the instructions they stand for (R92, R93, R94, R95, R101, R103, R105, R111, R115, R360).
The spec's decisions D1, D2 and D3. The instructions of rows no setting maps, and the code and other fields in Invalid's record beside asi, are the model's choice (log 9). -/
def Obligations.SampleWordsDecode : Prop :=
  (∀ u : Unlisted,
    decode u 0x0500000C = .instr (.sethi 2 12) ∧
    decode u 0x86084002 = .instr (.and 3 1 (.reg 0 2)) ∧
    decode u 0x82002001 = .instr (.add 1 0 (.imm 1)) ∧
    decode u 0x87286004 = .instr (.sll 3 1 (.imm 4)) ∧
    decode u 0x86504002 = .instr (.umul 3 1 (.reg 0 2)) ∧
    decode u 0x86F84002 = .instr (.sdivcc 3 1 (.reg 0 2)) ∧
    decode u 0xC6007FFC = .instr (.ld 3 1 (.imm (-4))) ∧
    decode u 0xC4386000 = .instr (.std 2 1 (.imm 0)) ∧
    decode u 0x7FFFFFFE = .instr (.call (-2)) ∧
    decode u 0x81CCA000 = .instr (.rett 0 18 (.imm 0)) ∧
    decode u 0x32800003 = .instr (.bne true 3) ∧
    decode u 0x02BFFFFE = .instr (.be false (-2)) ∧
    decode u 0x91D02003 = .instr (.ta false 0 (.imm 3)) ∧
    decode u 0x9DE3BFA0 = .instr (.save 14 14 (.imm (-96))) ∧
    decode u 0x87400000 = .instr (.rdy 3 0) ∧
    decode u 0x87444000 = .instr (.rdasr 3 17 0) ∧
    decode u 0x81886020 = .instr (.wrpsr 0 1 (.imm 0x20)) ∧
    decode u 0xC6804160 = .invalid (.unmappedMemory 0x10 3 1 (.reg 0x0B 0)) ∧
    decode u 0x11800004 = .invalid (.unmappedOp2 6 8 4) ∧
    decode u 0x00000000 = .invalid (.unmappedOp2 0 0 0) ∧
    decodeBytes u [0x05, 0x00, 0x00, 0x0C] = (.instr (.sethi 2 12), [])) ∧
  decode .v8 0x86404002 = .instr (.addx 3 1 (.reg 0 2)) ∧ decode .illegal 0x86404002 = .invalid (.unmappedArith 0x08 3 1 (.reg 0 2)) ∧
  decode .v8 0x8143C000 = .instr (.stbar 0) ∧ decode .illegal 0x8143C000 = .instr (.rdasr 0 15 0) ∧
  decodeRow 0xC6804160 = some (.lda 3 1 (.reg 0x0B 0)) ∧ decodeRow 0x11800004 = some (.fbfcc false 8 4) ∧ decodeRow 0 = some (.unimp 0 0)

/-- A step at a boundary is the fetch of npc and then exec of the staged word's instruction (R400, R401, R402, R406, R407).
The stages' order is the spec's decisions D12, D13 and D38; the stage field is the model's (log 11). -/
def Obligations.StepRunsDecodedInstruction : Prop :=
  ∀ s : State, s.status = .normal → s.stage = .boundary → s.portFaults .fetch s.npc 4 = false →
    (∀ i, decode s.cfg.implUnlisted s.slot0 = .instr i →
      step s = exec i { s with slot1 := s.wordAt s.npc, dec := .instr i, stage := .decoded }) ∧
    (∀ c, decode s.cfg.implUnlisted s.slot0 = .invalid c →
      Raises (step s) { s with slot1 := s.wordAt s.npc, dec := .invalid c, stage := .decoded } .illegalInstruction) ∧
    (s.slot0 = s.wordAt s.pc → ∀ i,
      decodeBytes s.cfg.implUnlisted [s.byteAt s.pc, s.byteAt (s.pc + 1), s.byteAt (s.pc + 2), s.byteAt (s.pc + 3)] = (.instr i, []) →
      step s = exec i { s with slot1 := s.wordAt s.npc, dec := .instr i, stage := .decoded })

/-- The state after reset meets the invariant of a step boundary (R31, R46, R55).
NWIN = 8, the entry address 0, the power-on zeros and the empty memory are choices (logs 1, 2, 3, 4). -/
def Obligations.ResetMeetsInvariant : Prop :=
  State.reset.Inv

/-- Every step keeps the invariant of a step boundary (R20, R25, R31, R35, R46, R48, R67, R407).
The stage field and the memory's canonical form are the model's (logs 4, 11); R31 and R407 are the spec's own derivations. -/
def Obligations.StepKeepsInvariant : Prop :=
  ∀ s t : State, s.Inv → step s = .next t → t.Inv

/-- An instruction raises at most one trap, and one that raises has no other effect (R13, R68, R452, R461, R468).
The no-side-effect rule is the spec's decision D20. -/
def Obligations.OneTrapPerInstruction : Prop :=
  ∀ (i : Instr) (s : State),
    (∃ kind a n, exec i s = .fault (.hardFault kind a n)) ∨
    (∃ t, Trap.synchronous t = true ∧ Raises (exec i s) s t) ∨
    (∃ e : State, exec i s = e.complete ∧ e.pending = s.pending ∧ e.status = s.status ∧ e.pc = s.pc ∧ e.npc = s.npc)

/-- icc, Y, WIM, TBA, PIL, PS, ET and the parameters are written by the named instructions and trap entry only (R32, R34, R35, R36, R37, R500).
That the parameters are a field no step writes is the model's (log 1). -/
def Obligations.SpecialRegisterWriters : Prop :=
  ∀ (i : Instr) (s t : State), exec i s = .next t →
    (i.writesIcc = false → t.psr.icc = s.psr.icc) ∧
    (i.writesY = false → t.y = s.y) ∧
    (i.writesWim = false → t.wim = s.wim) ∧
    (i.writesTba = false → t.tbr.tba = s.tbr.tba) ∧
    (i.writesPsr = false → t.psr.pil = s.psr.pil) ∧
    (i.writesPsr = false → t.psr.ps = s.psr.ps ∨
      (t.psr.s = true ∧ t.psr.et = false ∧ ∃ tr : Trap, t.tbr.tt = Trap.tt tr ∧ t.pc = t.tbr.tba ++ Trap.tt tr ++ 0#4)) ∧
    (i.writesPsr = false → (∀ rd rs1 src, i ≠ .rett rd rs1 src) → t.psr.et = s.psr.et ∨
      (t.psr.s = true ∧ t.psr.et = false ∧ ∃ tr : Trap, t.tbr.tt = Trap.tt tr ∧ t.pc = t.tbr.tba ++ Trap.tt tr ++ 0#4)) ∧
    t.cfg = s.cfg

/-- Memory is written by stores only, a global only by an instruction that names it as destination (R13, R26, R221, R466). -/
def Obligations.MemoryAndGlobalWriters : Prop :=
  ∀ (i : Instr) (s t : State), exec i s = .next t →
    (i.writesMemory = false → SameBytes s t) ∧
    ∀ g : Reg, g.toNat < 8 → g ∉ i.destinations → t.reg g = s.reg g

/-- CWP changes only by SAVE, RESTORE, RETT, WRPSR and trap entry (R25). -/
def Obligations.CwpWriters : Prop :=
  ∀ (i : Instr) (s t : State), s.sized = true → exec i s = .next t → i.writesCwp = false →
    t.psr.cwp = s.psr.cwp ∨
    (t.psr.cwp.toNat = (s.psr.cwp.toNat + s.cfg.nwin - 1) % s.cfg.nwin ∧ t.psr.s = true ∧ t.psr.et = false ∧
      ∃ tr : Trap, t.tbr.tt = Trap.tt tr ∧ t.pc = t.tbr.tba ++ Trap.tt tr ++ 0#4)

/-- User mode reaches supervisor mode by trap entry or reset only, and writes no control register (R34, R346, R475).
R346 is the spec's own derivation. -/
def Obligations.PrivilegeBoundary : Prop :=
  (∀ s t : State, s.status = .normal → s.psr.s = false → step s = .next t →
    t.wim = s.wim ∧ t.tbr.tba = s.tbr.tba ∧ t.psr.pil = s.psr.pil ∧ t.cfg = s.cfg ∧ t.bootEntry = s.bootEntry ∧
    (t.psr.s = false → t.psr.et = s.psr.et ∧ t.psr.ps = s.psr.ps ∧ t.tbr = s.tbr) ∧
    (t.psr.s = true →
      (∃ tr : Trap, t.tbr.tt = Trap.tt tr ∧ t.pc = s.tbr.tba ++ Trap.tt tr ++ 0#4 ∧ t.psr.et = false ∧ t.psr.ps = false) ∨
      (s.isPending .reset = true ∧ t.pc = s.bootEntry ∧ t.pending = 0 ∧ t.psr.et = s.psr.et ∧ t.psr.ps = s.psr.ps))) ∧
  (∀ (i : Instr) (s t : State), exec i s = .next t → s.psr.s = true → t.psr.s = false →
    i.writesPsr = true ∨ (s.psr.ps = false ∧ ∃ rd rs1 src, i = .rett rd rs1 src))

/-- AND, OR, XOR, ANDN, ORN and XNOR write their Boolean function to rd and change nothing else (R152, R154, R156, R158, R160, R162). -/
def Obligations.LogicalResults : Prop :=
  ∀ (s : State) (rd rs1 : Reg) (src : Operand2), s.sized = true → s.quiet = true → ∀ a b : Word, a = s.reg rs1 → b = s.operand2 src →
    (∀ v : BitVec 13, src = .imm v → b = BitVec.ofInt 32 v.toInt) ∧ (∀ (asi : BitVec 8) (r : Reg), src = .reg asi r → b = s.reg r) ∧
    GivesReg (exec (.and rd rs1 src) s) s rd (a &&& b) s.psr.icc s.y ∧
    GivesReg (exec (.or rd rs1 src) s) s rd (a ||| b) s.psr.icc s.y ∧
    GivesReg (exec (.xor rd rs1 src) s) s rd (a ^^^ b) s.psr.icc s.y ∧
    GivesReg (exec (.andn rd rs1 src) s) s rd (a &&& ~~~b) s.psr.icc s.y ∧
    GivesReg (exec (.orn rd rs1 src) s) s rd (a ||| ~~~b) s.psr.icc s.y ∧
    GivesReg (exec (.xnor rd rs1 src) s) s rd (~~~(a ^^^ b)) s.psr.icc s.y

/-- The logical cc instructions write rd, N and Z of the result, and clear V and C (R134, R153, R155, R157, R159, R161, R163). -/
def Obligations.LogicalCcResults : Prop :=
  ∀ (s : State) (rd rs1 : Reg) (src : Operand2), s.sized = true → s.quiet = true → ∀ a b : Word, a = s.reg rs1 → b = s.operand2 src →
    GivesReg (exec (.andcc rd rs1 src) s) s rd (a &&& b) { n := (a &&& b).getLsbD 31, z := decide ((a &&& b) = 0), v := false, c := false } s.y ∧
    GivesReg (exec (.orcc rd rs1 src) s) s rd (a ||| b) { n := (a ||| b).getLsbD 31, z := decide ((a ||| b) = 0), v := false, c := false } s.y ∧
    GivesReg (exec (.xorcc rd rs1 src) s) s rd (a ^^^ b) { n := (a ^^^ b).getLsbD 31, z := decide ((a ^^^ b) = 0), v := false, c := false } s.y ∧
    GivesReg (exec (.andncc rd rs1 src) s) s rd (a &&& ~~~b) { n := (a &&& ~~~b).getLsbD 31, z := decide ((a &&& ~~~b) = 0), v := false, c := false } s.y ∧
    GivesReg (exec (.orncc rd rs1 src) s) s rd (a ||| ~~~b) { n := (a ||| ~~~b).getLsbD 31, z := decide ((a ||| ~~~b) = 0), v := false, c := false } s.y ∧
    GivesReg (exec (.xnorcc rd rs1 src) s) s rd (~~~(a ^^^ b)) { n := (~~~(a ^^^ b)).getLsbD 31, z := decide ((~~~(a ^^^ b)) = 0), v := false, c := false } s.y

/-- SETHI, ADD and SUB write their 32-bit result to rd and change nothing else (R150, R170, R172). -/
def Obligations.SethiAddSubResults : Prop :=
  ∀ (s : State) (rd rs1 : Reg) (src : Operand2), s.sized = true → s.quiet = true → ∀ a b : Word, a = s.reg rs1 → b = s.operand2 src →
    (∀ v : BitVec 13, src = .imm v → b = BitVec.ofInt 32 v.toInt) ∧ (∀ (asi : BitVec 8) (r : Reg), src = .reg asi r → b = s.reg r) ∧
    GivesReg (exec (.add rd rs1 src) s) s rd (BitVec.ofNat 32 (a.toNat + b.toNat)) s.psr.icc s.y ∧
    GivesReg (exec (.sub rd rs1 src) s) s rd (BitVec.ofInt 32 (a.toInt - b.toInt)) s.psr.icc s.y ∧
    ∀ imm22 : BitVec 22, GivesReg (exec (.sethi rd imm22) s) s rd (BitVec.ofNat 32 (imm22.toNat * 2 ^ 10)) s.psr.icc s.y

/-- ADDcc and SUBcc write rd and all four flags by their formulas (R171, R173). -/
def Obligations.AddSubCcResults : Prop :=
  ∀ (s : State) (rd rs1 : Reg) (src : Operand2), s.sized = true → s.quiet = true → ∀ a b : Word, a = s.reg rs1 → b = s.operand2 src →
    GivesReg (exec (.addcc rd rs1 src) s) s rd (a + b)
      { n := (a + b).getLsbD 31, z := decide (a + b = 0),
        v := a.getLsbD 31 == b.getLsbD 31 && a.getLsbD 31 != (a + b).getLsbD 31, c := decide (2 ^ 32 ≤ a.toNat + b.toNat) } s.y ∧
    GivesReg (exec (.subcc rd rs1 src) s) s rd (a - b)
      { n := (a - b).getLsbD 31, z := decide (a - b = 0),
        v := a.getLsbD 31 != b.getLsbD 31 && b.getLsbD 31 == (a - b).getLsbD 31, c := decide (a.toNat < b.toNat) } s.y

/-- The shifts move x[rs1] by the low five bits of the second operand (R180, R181, R182, R183).
The count is the spec's decision D27. -/
def Obligations.ShiftResults : Prop :=
  ∀ (s : State) (rd rs1 : Reg) (src : Operand2), s.sized = true → s.quiet = true → ∀ (a : Word) (k : Nat), a = s.reg rs1 → k = (s.operand2 src).toNat % 32 →
    GivesReg (exec (.sll rd rs1 src) s) s rd (BitVec.ofNat 32 (a.toNat * 2 ^ k)) s.psr.icc s.y ∧
    GivesReg (exec (.srl rd rs1 src) s) s rd (BitVec.ofNat 32 (a.toNat / 2 ^ k)) s.psr.icc s.y ∧
    GivesReg (exec (.sra rd rs1 src) s) s rd (BitVec.ofInt 32 (a.toInt / 2 ^ k)) s.psr.icc s.y

/-- V of an addition or subtraction is signed overflow, and C has the stated bit formula (R132, R133). -/
def Obligations.OverflowIsSignedRange : Prop :=
  ∀ a b : Word,
    (iccAdd a b false (a + b)).v = decide (a.toInt + b.toInt < -2 ^ 31 ∨ 2 ^ 31 ≤ a.toInt + b.toInt) ∧
    (iccSub a b false (a - b)).v = decide (a.toInt - b.toInt < -2 ^ 31 ∨ 2 ^ 31 ≤ a.toInt - b.toInt) ∧
    (∀ r : Word, r = a + b →
      (iccAdd a b false r).v = ((a.msb && b.msb && !r.msb) || (!a.msb && !b.msb && r.msb)) ∧
      (iccAdd a b false r).c = ((a.msb && b.msb) || (!r.msb && (a.msb || b.msb)))) ∧
    (∀ r : Word, r = a - b →
      (iccSub a b false r).v = ((a.msb && !b.msb && !r.msb) || (!a.msb && b.msb && r.msb)) ∧
      (iccSub a b false r).c = ((!a.msb && b.msb) || (r.msb && (!a.msb || b.msb))))

/-- The sixteen conditions are the table's functions, and cond c and cond c ^ 8 are opposite (R102, R136, R137).
The fifteen functions other than BG are the spec's from general knowledge (R136); R137 is its own derivation. -/
def Obligations.ConditionTable : Prop :=
  ∀ (c : BitVec 4) (f : Icc), condHolds (condOfCode c) f =
    ((match c.toNat % 8 with
      | 0 => false
      | 1 => f.z
      | 2 => f.z || (f.n ^^ f.v)
      | 3 => f.n ^^ f.v
      | 4 => f.c || f.z
      | 5 => f.c
      | 6 => f.n
      | _ => f.v) ^^ decide (8 ≤ c.toNat))

/-- After SUBcc the conditions compare the operands, signed and unsigned (R133, R136, R138). -/
def Obligations.ConditionsAfterCompare : Prop :=
  ∀ (a b : Word) (f : Icc), f = iccSub a b false (a - b) →
    condHolds .e f = decide (a = b) ∧ condHolds .ne f = decide (a ≠ b) ∧
    condHolds .l f = decide (a.toInt < b.toInt) ∧ condHolds .le f = decide (a.toInt ≤ b.toInt) ∧
    condHolds .g f = decide (b.toInt < a.toInt) ∧ condHolds .ge f = decide (b.toInt ≤ a.toInt) ∧
    condHolds .cs f = decide (a.toNat < b.toNat) ∧ condHolds .leu f = decide (a.toNat ≤ b.toNat) ∧
    condHolds .gu f = decide (b.toNat < a.toNat) ∧ condHolds .cc f = decide (b.toNat ≤ a.toNat)

/-- The multiplies write the low word of the product to rd and the high word to Y (R191, R192, R193, R194).
That Y is written also when rd = 0, and the reading of the immediate, are the spec's decision D41. -/
def Obligations.MultiplyResults : Prop :=
  ∀ (s : State) (rd rs1 : Reg) (src : Operand2), s.sized = true → s.quiet = true → ∀ (p : Nat) (q : Int), p = (s.reg rs1).toNat * (s.operand2 src).toNat →
    q = (s.reg rs1).toInt * (s.operand2 src).toInt →
    GivesReg (exec (.umul rd rs1 src) s) s rd (BitVec.ofNat 32 p) s.psr.icc (BitVec.ofNat 32 (p / 2 ^ 32)) ∧
    GivesReg (exec (.umulcc rd rs1 src) s) s rd (BitVec.ofNat 32 p) { n := (BitVec.ofNat 32 p).getLsbD 31, z := decide (BitVec.ofNat 32 p = 0), v := false, c := false } (BitVec.ofNat 32 (p / 2 ^ 32)) ∧
    GivesReg (exec (.smul rd rs1 src) s) s rd (BitVec.ofInt 32 q) s.psr.icc (BitVec.ofInt 32 (q / 2 ^ 32)) ∧
    GivesReg (exec (.smulcc rd rs1 src) s) s rd (BitVec.ofInt 32 q) { n := (BitVec.ofInt 32 q).getLsbD 31, z := decide (BitVec.ofInt 32 q = 0), v := false, c := false } (BitVec.ofInt 32 (q / 2 ^ 32))

/-- The divides write the clamped quotient of Y ++ x[rs1], and raise division_by_zero for a zero divisor (R195, R196, R197, R198, R199).
The zero divisor, the rounding and Y's keeping its value are the spec's decisions D24 and D25. -/
def Obligations.DivideResults : Prop :=
  ∀ (s : State) (rd rs1 : Reg) (src : Operand2) (b : Word), b = s.operand2 src →
    (b = 0 →
      Raises (exec (.udiv rd rs1 src) s) s .divisionByZero ∧ Raises (exec (.udivcc rd rs1 src) s) s .divisionByZero ∧
      Raises (exec (.sdiv rd rs1 src) s) s .divisionByZero ∧ Raises (exec (.sdivcc rd rs1 src) s) s .divisionByZero) ∧
    (b ≠ 0 → s.sized = true → s.quiet = true → ∀ (p : Nat) (q : Int) (u v : Word),
      p = (s.y.toNat * 2 ^ 32 + (s.reg rs1).toNat) / b.toNat →
      q = (s.y.toInt * 2 ^ 32 + (s.reg rs1).toNat).tdiv b.toInt →
      u = (if 2 ^ 32 - 1 < p then 0xFFFFFFFF else BitVec.ofNat 32 p) →
      v = (if 2 ^ 31 - 1 < q then 0x7FFFFFFF else if q < -2 ^ 31 then 0x80000000 else BitVec.ofInt 32 q) →
      GivesReg (exec (.udiv rd rs1 src) s) s rd u s.psr.icc s.y ∧
      GivesReg (exec (.udivcc rd rs1 src) s) s rd u { n := u.getLsbD 31, z := decide (u = 0), v := decide (2 ^ 32 - 1 < p), c := false } s.y ∧
      GivesReg (exec (.sdiv rd rs1 src) s) s rd v s.psr.icc s.y ∧
      GivesReg (exec (.sdivcc rd rs1 src) s) s rd v
        { n := v.getLsbD 31, z := decide (v = 0), v := decide (2 ^ 31 - 1 < q ∨ q < -2 ^ 31), c := false } s.y)

/-- UDIV overflows iff u(Y) >= u(b); SDIV of a sign-extended dividend only for -2^31 / -1 (R196, R201). -/
def Obligations.DivideOverflowBoundary : Prop :=
  ∀ y a b : Word, b ≠ 0 →
    (udivQuotient y a b).overflow = decide (b.toNat ≤ y.toNat) ∧
    (y = (if a.msb then 0xFFFFFFFF else 0) → (sdivQuotient y a b).overflow = decide (a = 0x80000000 ∧ b = 0xFFFFFFFF))

/-- MULScc adds the shifted operand and conditional multiplicand and shifts Y (R200).
The operation is the spec's decision D26. -/
def Obligations.MultiplyStepResult : Prop :=
  ∀ (s : State) (rd rs1 : Reg) (src : Operand2), s.sized = true → s.quiet = true → ∀ a b o1 o2 y : Word, a = s.reg rs1 → b = s.operand2 src →
    o1 = BitVec.ofNat 32 (a.toNat / 2 + (if s.psr.icc.n ^^ s.psr.icc.v then 2 ^ 31 else 0)) →
    o2 = (if s.y.getLsbD 0 then b else 0) →
    y = BitVec.ofNat 32 (s.y.toNat / 2 + (if a.getLsbD 0 then 2 ^ 31 else 0)) →
    GivesReg (exec (.mulscc rd rs1 src) s) s rd (o1 + o2)
      { n := (o1 + o2).getLsbD 31, z := decide (o1 + o2 = 0),
        v := o1.getLsbD 31 == o2.getLsbD 31 && o1.getLsbD 31 != (o1 + o2).getLsbD 31, c := decide (2 ^ 32 ≤ o1.toNat + o2.toNat) } y

/-- LD, LDUB, LDSB, LDUH and LDSH write the big-endian, extended value at ea to rd (R62, R211, R212, R213, R215, R216).
The extensions are the spec's decision D28, plain memory its D39. -/
def Obligations.LoadResults : Prop :=
  ∀ (s : State) (rd rs1 : Reg) (src : Operand2), s.sized = true → s.quiet = true → ∀ ea : Word, ea = s.reg rs1 + s.operand2 src →
    (ea.toNat % 4 = 0 → s.portFaults .read ea 4 = false →
      GivesReg (exec (.ld rd rs1 src) s) s rd (BitVec.ofNat 32 ((s.byteAt ea).toNat * 2 ^ 24 + (s.byteAt (ea + 1)).toNat * 2 ^ 16 + (s.byteAt (ea + 2)).toNat * 2 ^ 8 + (s.byteAt (ea + 3)).toNat)) s.psr.icc s.y) ∧
    (s.portFaults .read ea 1 = false →
      GivesReg (exec (.ldub rd rs1 src) s) s rd (BitVec.ofNat 32 (s.byteAt ea).toNat) s.psr.icc s.y ∧
      GivesReg (exec (.ldsb rd rs1 src) s) s rd (BitVec.ofInt 32 (s.byteAt ea).toInt) s.psr.icc s.y) ∧
    (ea.toNat % 2 = 0 → s.portFaults .read ea 2 = false → ∀ h : BitVec 16, h = BitVec.ofNat 16 ((s.byteAt ea).toNat * 2 ^ 8 + (s.byteAt (ea + 1)).toNat) →
      GivesReg (exec (.lduh rd rs1 src) s) s rd (BitVec.ofNat 32 h.toNat) s.psr.icc s.y ∧
      GivesReg (exec (.ldsh rd rs1 src) s) s rd (BitVec.ofInt 32 h.toInt) s.psr.icc s.y)

/-- LDD loads the word at ea into the even register and the word at ea + 4 into the odd one (R62, R214).
The order and the alignment are the spec's decision D28. -/
def Obligations.LoadDoubleResult : Prop :=
  ∀ (s : State) (rd rs1 : Reg) (src : Operand2), s.sized = true → s.quiet = true → ∀ ea : Word, ea = s.reg rs1 + s.operand2 src → rd.toNat % 2 = 0 → ea.toNat % 8 = 0 →
    s.portFaults .read ea 4 = false → s.portFaults .read (ea + 4) 4 = false →
    ∃ t, exec (.ldd rd rs1 src) s = .next t ∧ Proceeds s t s.npc2 ∧ SameSpecials s t ∧ SameBytes s t ∧
      t.reg rd = (if rd = 0 then 0 else s.wordAt ea) ∧ t.reg (rd + 1) = s.wordAt (ea + 4) ∧
      ∀ c : RegCell, c ≠ s.cellOf rd → c ≠ s.cellOf (rd + 1) → t.readCell c = s.readCell c

/-- ST, STB and STH store the low bytes of x[rd] big-endian at ea and change no other byte (R62, R63, R66, R217, R218, R219).
The byte order is the spec's decision D39; canonical memory is the model's (log 4). -/
def Obligations.StoreResults : Prop :=
  ∀ (s : State) (rd rs1 : Reg) (src : Operand2), s.quiet = true → Memory.wf s.mem = true → ∀ ea : Word, ea = s.reg rs1 + s.operand2 src →
    (ea.toNat % 4 = 0 → s.portFaults .write ea 4 = false →
      GivesStore (exec (.st rd rs1 src) s) s ea 4 (s.reg rd).toNat) ∧
    (s.portFaults .write ea 1 = false → GivesStore (exec (.stb rd rs1 src) s) s ea 1 ((s.reg rd).toNat % 2 ^ 8)) ∧
    (ea.toNat % 2 = 0 → s.portFaults .write ea 2 = false →
      GivesStore (exec (.sth rd rs1 src) s) s ea 2 ((s.reg rd).toNat % 2 ^ 16)) ∧
    (ea.toNat % 4 ≠ 0 → Raises (exec (.st rd rs1 src) s) s .memAddressNotAligned) ∧
    (ea.toNat % 2 ≠ 0 → Raises (exec (.sth rd rs1 src) s) s .memAddressNotAligned)

/-- STD stores x[rd] at ea and x[rd + 1] at ea + 4 (R63, R220).
The order and the alignment are the spec's decision D28; canonical memory is the model's (log 4). -/
def Obligations.StoreDoubleResult : Prop :=
  ∀ (s : State) (rd rs1 : Reg) (src : Operand2), s.quiet = true → Memory.wf s.mem = true → ∀ ea : Word, ea = s.reg rs1 + s.operand2 src →
    rd.toNat % 2 = 0 → ea.toNat % 8 = 0 → s.portFaults .write ea 4 = false → s.portFaults .write (ea + 4) 4 = false →
    GivesStore (exec (.std rd rs1 src) s) s ea 8 ((s.reg rd).toNat * 2 ^ 32 + (s.reg (rd + 1)).toNat)

/-- Misaligned loads and stores raise mem_address_not_aligned, LDD and STD with odd rd illegal_instruction (R66, R210, R214, R220, R446).
The order of the two checks is the spec's decision D28. -/
def Obligations.LoadStoreTraps : Prop :=
  ∀ (s : State) (rd rs1 : Reg) (src : Operand2), ∀ ea : Word, ea = s.reg rs1 + s.operand2 src →
    (ea.toNat % 4 ≠ 0 → Raises (exec (.ld rd rs1 src) s) s .memAddressNotAligned ∧ Raises (exec (.st rd rs1 src) s) s .memAddressNotAligned) ∧
    (ea.toNat % 2 ≠ 0 → Raises (exec (.lduh rd rs1 src) s) s .memAddressNotAligned ∧
      Raises (exec (.ldsh rd rs1 src) s) s .memAddressNotAligned ∧ Raises (exec (.sth rd rs1 src) s) s .memAddressNotAligned) ∧
    (rd.toNat % 2 = 0 → ea.toNat % 8 ≠ 0 →
      Raises (exec (.ldd rd rs1 src) s) s .memAddressNotAligned ∧ Raises (exec (.std rd rs1 src) s) s .memAddressNotAligned) ∧
    (rd.toNat % 2 = 1 →
      Raises (exec (.ldd rd rs1 src) s) s .illegalInstruction ∧ Raises (exec (.std rd rs1 src) s) s .illegalInstruction)

/-- A load of the stored size at the stored address gives the stored value (R63, R221).
Plain memory behind the port is the model's (logs 4, 5). -/
def Obligations.StoreThenLoad : Prop :=
  ∀ (s : State) (rd rs1 : Reg) (src : Operand2), s.sized = true → s.quiet = true → Memory.wf s.mem = true → ∀ ea : Word, ea = s.reg rs1 + s.operand2 src →
    (ea.toNat % 4 = 0 → s.portFaults .write ea 4 = false → s.portFaults .read ea 4 = false →
      ∃ t, exec (.st rd rs1 src) s = .next t ∧ ∀ (rd' rs1' : Reg) (src' : Operand2),
        t.reg rs1' + t.operand2 src' = ea → GivesReg (exec (.ld rd' rs1' src') t) t rd' (s.reg rd) t.psr.icc t.y) ∧
    (ea.toNat % 2 = 0 → s.portFaults .write ea 2 = false → s.portFaults .read ea 2 = false →
      ∃ t, exec (.sth rd rs1 src) s = .next t ∧ ∀ (rd' rs1' : Reg) (src' : Operand2),
        t.reg rs1' + t.operand2 src' = ea →
          GivesReg (exec (.lduh rd' rs1' src') t) t rd' (((s.reg rd).extractLsb' 0 16).zeroExtend 32) t.psr.icc t.y ∧
          GivesReg (exec (.ldsh rd' rs1' src') t) t rd' (((s.reg rd).extractLsb' 0 16).signExtend 32) t.psr.icc t.y) ∧
    (s.portFaults .write ea 1 = false → s.portFaults .read ea 1 = false →
      ∃ t, exec (.stb rd rs1 src) s = .next t ∧ ∀ (rd' rs1' : Reg) (src' : Operand2),
        t.reg rs1' + t.operand2 src' = ea →
          GivesReg (exec (.ldub rd' rs1' src') t) t rd' (((s.reg rd).extractLsb' 0 8).zeroExtend 32) t.psr.icc t.y ∧
          GivesReg (exec (.ldsb rd' rs1' src') t) t rd' (((s.reg rd).extractLsb' 0 8).signExtend 32) t.psr.icc t.y) ∧
    (rd.toNat % 2 = 0 → ea.toNat % 8 = 0 → s.portFaults .write ea 4 = false → s.portFaults .write (ea + 4) 4 = false →
      s.portFaults .read ea 4 = false → s.portFaults .read (ea + 4) 4 = false →
      ∃ t, exec (.std rd rs1 src) s = .next t ∧ ∀ (rd' rs1' : Reg) (src' : Operand2), rd'.toNat % 2 = 0 →
        t.reg rs1' + t.operand2 src' = ea →
          ∃ u, exec (.ldd rd' rs1' src') t = .next u ∧ Proceeds t u t.npc2 ∧ SameSpecials t u ∧ SameBytes t u ∧
            u.reg rd' = (if rd' = 0 then 0 else s.reg rd) ∧ u.reg (rd' + 1) = s.reg (rd + 1) ∧
            ∀ c : RegCell, c ≠ t.cellOf rd' → c ≠ t.cellOf (rd' + 1) → u.readCell c = t.readCell c)

/-- A port Fault on any fetch, load, store, re-fetch, vector fetch or prefetch ends the step as HardFault, not as a trap (R64, R68, R69, R401, R403, R466, R504).
Which accesses fault is the model's cfg.port (log 5), and a HardFault is a fault outcome with no state (log 6). That the reset trap makes its prefetch without a second alignment test is deduced (log 15). LDSTUB and SWAP rest on the spec's decision D3, ba,a on its D14. -/
def Obligations.PortFaultStops : Prop :=
  (∀ s : State, s.status = .normal → s.stage = .boundary → s.portFaults .fetch s.npc 4 = true →
    step s = .fault (.hardFault .fetch s.npc 4)) ∧
  (∀ (s : State) (rd rs1 : Reg) (src : Operand2), ∀ ea : Word, ea = s.reg rs1 + s.operand2 src →
    (s.portFaults .read ea 1 = true →
      exec (.ldub rd rs1 src) s = .fault (.hardFault .read ea 1) ∧ exec (.ldsb rd rs1 src) s = .fault (.hardFault .read ea 1) ∧
      (s.cfg.implUnlisted = .v8 → exec (.ldstub rd rs1 src) s = .fault (.hardFault .read ea 1))) ∧
    (s.portFaults .write ea 1 = true →
      exec (.stb rd rs1 src) s = .fault (.hardFault .write ea 1) ∧
      (s.cfg.implUnlisted = .v8 → s.portFaults .read ea 1 = false →
        exec (.ldstub rd rs1 src) s = .fault (.hardFault .write ea 1))) ∧
    (ea.toNat % 2 = 0 →
      (s.portFaults .read ea 2 = true →
        exec (.lduh rd rs1 src) s = .fault (.hardFault .read ea 2) ∧ exec (.ldsh rd rs1 src) s = .fault (.hardFault .read ea 2)) ∧
      (s.portFaults .write ea 2 = true → exec (.sth rd rs1 src) s = .fault (.hardFault .write ea 2))) ∧
    (ea.toNat % 4 = 0 →
      (s.portFaults .read ea 4 = true →
        exec (.ld rd rs1 src) s = .fault (.hardFault .read ea 4) ∧
        (s.cfg.implUnlisted = .v8 → exec (.swap rd rs1 src) s = .fault (.hardFault .read ea 4))) ∧
      (s.portFaults .write ea 4 = true →
        exec (.st rd rs1 src) s = .fault (.hardFault .write ea 4) ∧
        (s.cfg.implUnlisted = .v8 → s.portFaults .read ea 4 = false →
          exec (.swap rd rs1 src) s = .fault (.hardFault .write ea 4)))) ∧
    (rd.toNat % 2 = 0 → ea.toNat % 8 = 0 →
      (s.portFaults .read ea 4 = true → exec (.ldd rd rs1 src) s = .fault (.hardFault .read ea 4)) ∧
      (s.portFaults .read ea 4 = false → s.portFaults .read (ea + 4) 4 = true →
        exec (.ldd rd rs1 src) s = .fault (.hardFault .read (ea + 4) 4)) ∧
      (s.portFaults .write ea 4 = true → exec (.std rd rs1 src) s = .fault (.hardFault .write ea 4)) ∧
      (s.portFaults .write ea 4 = false → s.portFaults .write (ea + 4) 4 = true →
        exec (.std rd rs1 src) s = .fault (.hardFault .write (ea + 4) 4)))) ∧
  (∀ s : State, s.annul = true → s.portFaults .fetch s.npc2 4 = true → s.complete = .fault (.hardFault .fetch s.npc2 4)) ∧
  (∀ (s : State) (c : Cond) (disp22 : BitVec 22), condHolds c s.psr.icc = false → s.portFaults .fetch s.npc2 4 = true →
    exec (decodeBicc true disp22 c) s = .fault (.hardFault .fetch s.npc2 4)) ∧
  (∀ (s : State) (disp22 : BitVec 22) (t : Word), t = s.pc + BitVec.ofInt 32 (disp22.toInt * 4) → s.cfg.baAnnul = .v8 →
    s.portFaults .fetch t 4 = true → exec (.ba true disp22) s = .fault (.hardFault .fetch t 4)) ∧
  (∀ s : State, (s.annul = false ∨ s.portFaults .fetch s.npc2 4 = false) →
    (∀ (t : Trap) (v : Word), s.selectTrap = some t → t ≠ .reset → (Trap.isInterrupt t = true ∨ s.psr.et = true) →
      v = s.tbr.tba ++ Trap.tt t ++ 0#4 → s.portFaults .fetch v 4 = true → s.complete = .fault (.hardFault .fetch v 4)) ∧
    (s.selectTrap = some .reset → s.portFaults .fetch s.bootEntry 4 = true →
      s.complete = .fault (.hardFault .fetch s.bootEntry 4))) ∧
  (∀ (s : State) (e : Word), e.toNat % 4 = 0 → s.portFaults .fetch e 4 = true → callBoot e s = .fault (.hardFault .fetch e 4)) ∧
  (∀ s : State, s.status = .hardFault → step s = .fault .alreadyHardFault ∧ callFetch s = .fault .alreadyHardFault ∧
    callDecode s = .fault .alreadyHardFault ∧ callExec s = .fault .alreadyHardFault)

/-- CALL links its own address in r15 and transfers to pc + 4 * disp30 after the delay slot (R241). -/
def Obligations.CallResult : Prop :=
  ∀ (s : State) (disp30 : BitVec 30), s.sized = true → s.quiet = true →
    GivesLink (exec (.call disp30) s) s 15 (s.pc + BitVec.ofInt 32 (disp30.toInt * 4))

/-- JMPL links its address in rd and transfers to x[rs1] + op2val, or raises when that is misaligned (R242).
That the check precedes the link write is the spec's decision D23. -/
def Obligations.JmplResult : Prop :=
  ∀ (s : State) (rd rs1 : Reg) (src : Operand2) (t : Word), t = s.reg rs1 + s.operand2 src →
    (t.toNat % 4 ≠ 0 → Raises (exec (.jmpl rd rs1 src) s) s .memAddressNotAligned) ∧
    (t.toNat % 4 = 0 → s.sized = true → s.quiet = true → GivesLink (exec (.jmpl rd rs1 src) s) s rd t)

/-- RETT checks S, ET, the window and the target in that order, and then undoes trap entry (R243).
The order of the checks is the spec's decision D21. -/
def Obligations.ReturnFromTrap : Prop :=
  ∀ (s : State) (rd rs1 : Reg) (src : Operand2) (n : Nat) (t : Word), s.sized = true → n = (s.psr.cwp.toNat + 1) % s.cfg.nwin →
    t = s.reg rs1 + s.operand2 src →
    (s.psr.s = false → Raises (exec (.rett rd rs1 src) s) s .privilegedInstruction) ∧
    (s.psr.s = true → s.psr.et = true → Raises (exec (.rett rd rs1 src) s) s .illegalInstruction) ∧
    (s.psr.s = true → s.psr.et = false → s.wim.getLsbD n = true → Raises (exec (.rett rd rs1 src) s) s .windowUnderflow) ∧
    (s.psr.s = true → s.psr.et = false → s.wim.getLsbD n = false → t.toNat % 4 ≠ 0 →
      Raises (exec (.rett rd rs1 src) s) s .memAddressNotAligned) ∧
    (s.psr.s = true → s.psr.et = false → s.wim.getLsbD n = false → t.toNat % 4 = 0 → s.quietWith true s.psr.pil = true →
      GivesSpecials (exec (.rett rd rs1 src) s) s t { s.psr with cwp := BitVec.ofNat 5 n, s := s.psr.ps, et := true } s.wim s.tbr s.y)

/-- Bicc: delayed when taken, no effect when untaken with a = 0, annulling when untaken with a = 1 (R260, R261, R403).
What the annul fix-up does to the triple is the spec's decision D13. -/
def Obligations.ConditionalBranch : Prop :=
  ∀ (s : State) (c : Cond) (a : Bool) (disp22 : BitVec 22), s.quiet = true → (c = .a → s.cfg.baAnnul = .doc ∨ a = false) →
    (condHolds c s.psr.icc = true →
      GivesMove (exec (decodeBicc a disp22 c) s) s (s.pc + BitVec.ofInt 32 (disp22.toInt * 4))) ∧
    (condHolds c s.psr.icc = false → a = false → GivesMove (exec (decodeBicc a disp22 c) s) s s.npc2) ∧
    (condHolds c s.psr.icc = false → a = true → s.portFaults .fetch s.npc2 4 = false →
      ∃ t, exec (decodeBicc a disp22 c) s = .next t ∧ t.pc = s.npc2 ∧ t.npc = s.npc2 + 4 ∧ t.npc2 = s.npc2 + 8 ∧
        t.slot0 = s.wordAt s.npc2 ∧ t.slot1 = s.wordAt s.npc2 ∧ t.annul = false ∧ t.pending = s.pending ∧ t.status = s.status ∧
        t.bootEntry = s.bootEntry ∧ t.cfg = s.cfg ∧ SameRegs s t ∧ SameSpecials s t ∧ SameBytes s t)

/-- BA is always taken; its annul bit acts only with BA_ANNUL = v8 (R262, R271).
The spec's decision D14. -/
def Obligations.BranchAlways : Prop :=
  ∀ (s : State) (a : Bool) (disp22 : BitVec 22) (t : Word), s.quiet = true → t = s.pc + BitVec.ofInt 32 (disp22.toInt * 4) →
    (s.cfg.baAnnul = .doc ∨ a = false → GivesMove (exec (.ba a disp22) s) s t) ∧
    (s.cfg.baAnnul = .v8 → a = true → s.portFaults .fetch t 4 = false →
      ∃ u, exec (.ba a disp22) s = .next u ∧ u.pc = t ∧ u.npc = t + 4 ∧ u.npc2 = t + 8 ∧ u.slot0 = s.wordAt t ∧
        u.slot1 = s.wordAt t ∧ u.annul = false ∧ u.pending = s.pending ∧ u.status = s.status ∧
        u.bootEntry = s.bootEntry ∧ u.cfg = s.cfg ∧ SameRegs s u ∧ SameSpecials s u ∧ SameBytes s u)

/-- The sixteen Ticc enter trap 128 + n when their condition holds and do nothing otherwise (R290, R291, R299).
The operand is the spec's decision D37. -/
def Obligations.TrapOnCondition : Prop :=
  ∀ (s : State) (c : Cond) (res : Bool) (rs1 : Reg) (src : Operand2) (n : BitVec 7),
    n = BitVec.ofNat 7 (((s.reg rs1).toNat + (s.operand2 src).toNat) % 128) →
    (Trap.tt (.trapInstruction n)).toNat = 128 + n.toNat ∧
    (condHolds c s.psr.icc = true → Raises (exec (decodeTicc res rs1 src c) s) s (.trapInstruction n)) ∧
    (condHolds c s.psr.icc = true → s.canEnter (.trapInstruction n) = true →
      EntersTrap (exec (decodeTicc res rs1 src c) s) s (.trapInstruction n)) ∧
    (condHolds c s.psr.icc = true → s.selects (.trapInstruction n) = true → s.psr.et = false →
      EntersError (exec (decodeTicc res rs1 src c) s) s (.trapInstruction n)) ∧
    (condHolds c s.psr.icc = false → s.quiet = true → GivesMove (exec (decodeTicc res rs1 src c) s) s s.npc2) ∧
    condHolds .n s.psr.icc = false ∧ condHolds .a s.psr.icc = true

/-- SAVE and RESTORE move the window and write the old window's sum to rd of the new window, or trap (R320, R321).
Where the sum is read is the spec's decision D22. -/
def Obligations.SaveAndRestore : Prop :=
  ∀ (s : State) (rd rs1 : Reg) (src : Operand2) (v : Word) (p n : Nat), s.sized = true → v = s.reg rs1 + s.operand2 src →
    p = (s.psr.cwp.toNat + s.cfg.nwin - 1) % s.cfg.nwin → n = (s.psr.cwp.toNat + 1) % s.cfg.nwin →
    (s.wim.getLsbD p = true → Raises (exec (.save rd rs1 src) s) s .windowOverflow) ∧
    (s.wim.getLsbD n = true → Raises (exec (.restore rd rs1 src) s) s .windowUnderflow) ∧
    (s.wim.getLsbD p = false → s.quiet = true → GivesWindow (exec (.save rd rs1 src) s) s p rd v) ∧
    (s.wim.getLsbD n = false → s.quiet = true → GivesWindow (exec (.restore rd rs1 src) s) s n rd v)

/-- A SAVE and then a RESTORE return to the window, its locals, its ins and the globals as they were (R24, R27, R28, R322).
The ring and the window of the sources are the spec's decisions D9 and D22; R322 is its own derivation. -/
def Obligations.SaveThenRestore : Prop :=
  ∀ (s : State) (rd rs1 rd' rs1' : Reg) (src src' : Operand2), s.sized = true → s.quiet = true →
    s.wim.getLsbD ((s.psr.cwp.toNat + s.cfg.nwin - 1) % s.cfg.nwin) = false → s.wim.getLsbD s.psr.cwp.toNat = false →
    ∃ t u, exec (.save rd rs1 src) s = .next t ∧ exec (.restore rd' rs1' src') t = .next u ∧ u.psr = s.psr ∧
      (∀ g : Reg, g.toNat < 8 → g ≠ rd → g ≠ rd' → u.reg g = s.reg g) ∧
      (∀ l : Reg, 16 ≤ l.toNat → l.toNat < 24 → l ≠ rd' → u.reg l = s.reg l) ∧
      (∀ i : Reg, 24 ≤ i.toNat → i ≠ rd' → (s.cfg.nwin = 2 → i.toNat ≠ rd.toNat + 16) → u.reg i = s.reg i)

/-- The ins of a window are the outs of the window above it, and locals belong to one window (R23, R24).
The ring is the spec's decision D9. -/
def Obligations.WindowOverlap : Prop :=
  ∀ (nwin : Nat) (w : BitVec 5), 2 ≤ nwin → nwin ≤ 32 → w.toNat < nwin →
    (∀ k : Nat, k < 8 → regCell nwin w (BitVec.ofNat 5 (24 + k)) =
      regCell nwin (BitVec.ofNat 5 ((w.toNat + 1) % nwin)) (BitVec.ofNat 5 (8 + k))) ∧
    (∀ (w' : BitVec 5) (l i : Reg), w'.toNat < nwin → 16 ≤ l.toNat → l.toNat < 24 → regCell nwin w l = regCell nwin w' i →
      w' = w ∧ i = l) ∧
    ∀ i : Reg, 8 ≤ i.toNat → ∃ k, regCell nwin w i = .window k ∧ k < 16 * nwin

/-- RDY in either mode, RDPSR, RDWIM and RDTBR in supervisor mode write the register's word to rd (R331, R333, R334, R335).
The layouts are the spec's decisions D6 and D7, the privilege rule its D31. -/
def Obligations.ReadSpecialRegisters : Prop :=
  ∀ (s : State) (rd rs1 : Reg) (low : BitVec 14), s.sized = true → s.quiet = true →
    GivesReg (exec (.rdy rd low) s) s rd s.y s.psr.icc s.y ∧
    (s.psr.s = true →
      GivesReg (exec (.rdpsr rd rs1 low) s) s rd (BitVec.ofNat 32 (s.cfg.psrImpl.toNat * 2 ^ 28 + s.cfg.psrVer.toNat * 2 ^ 24 + s.psr.icc.n.toNat * 2 ^ 23 +
        s.psr.icc.z.toNat * 2 ^ 22 + s.psr.icc.v.toNat * 2 ^ 21 + s.psr.icc.c.toNat * 2 ^ 20 + s.psr.pil.toNat * 2 ^ 8 +
        s.psr.s.toNat * 2 ^ 7 + s.psr.ps.toNat * 2 ^ 6 + s.psr.et.toNat * 2 ^ 5 + s.psr.cwp.toNat)) s.psr.icc s.y ∧
      GivesReg (exec (.rdwim rd rs1 low) s) s rd s.wim s.psr.icc s.y ∧
      GivesReg (exec (.rdtbr rd rs1 low) s) s rd (BitVec.ofNat 32 (s.tbr.tba.toNat * 2 ^ 12 + s.tbr.tt.toNat * 2 ^ 4)) s.psr.icc s.y)

/-- WRY in either mode, WRWIM and WRTBR in supervisor mode write x[rs1] xor op2val (R341, R344, R345).
The layouts are the spec's decision D7, the immediate effect its D32. -/
def Obligations.WriteSpecialRegisters : Prop :=
  ∀ (s : State) (rd rs1 : Reg) (src : Operand2) (v : Word), s.quiet = true → v = s.reg rs1 ^^^ s.operand2 src →
    GivesSpecials (exec (.wry rs1 src) s) s s.npc2 s.psr s.wim s.tbr v ∧
    (s.psr.s = true →
      GivesSpecials (exec (.wrwim rd rs1 src) s) s s.npc2 s.psr (v &&& BitVec.ofNat 32 (2 ^ s.cfg.nwin - 1)) s.tbr s.y ∧
      GivesSpecials (exec (.wrtbr rd rs1 src) s) s s.npc2 s.psr s.wim { s.tbr with tba := v.extractLsb' 12 20 } s.y)

/-- WRPSR writes every writable field at once, or raises illegal_instruction for CWP >= NWIN (R330, R343).
The CWP check and the immediate effect are the spec's decision D32. -/
def Obligations.WritePsr : Prop :=
  ∀ (s : State) (rd rs1 : Reg) (src : Operand2) (v : Word), v = s.reg rs1 ^^^ s.operand2 src →
    (s.psr.s = false → Raises (exec (.wrpsr rd rs1 src) s) s .privilegedInstruction) ∧
    (s.psr.s = true → s.cfg.nwin ≤ v.toNat % 32 → Raises (exec (.wrpsr rd rs1 src) s) s .illegalInstruction) ∧
    (s.psr.s = true → v.toNat % 32 < s.cfg.nwin → s.quietWith (v.getLsbD 5) (v.extractLsb' 8 4) = true →
      GivesSpecials (exec (.wrpsr rd rs1 src) s) s s.npc2
        { icc := { n := v.getLsbD 23, z := v.getLsbD 22, v := v.getLsbD 21, c := v.getLsbD 20 }
          pil := v.extractLsb' 8 4, s := v.getLsbD 7, ps := v.getLsbD 6, et := v.getLsbD 5, cwp := v.extractLsb' 0 5 }
        s.wim s.tbr s.y)

/-- What WRPSR, WRWIM and WRTBR write is read back on the writable bits (R33, R35, R36, R346).
The layouts are the spec's decisions D6 and D7. -/
def Obligations.SpecialReadBack : Prop :=
  ∀ (s : State) (v : Word) (k : Nat), k < 32 →
    (s.setPsr (psrOfWord v)).psrWord.getLsbD k =
      (if k < 12 ∨ (20 ≤ k ∧ k < 24) then v.getLsbD k
       else if k < 20 then false
       else if k < 28 then s.cfg.psrVer.getLsbD (k - 24) else s.cfg.psrImpl.getLsbD (k - 28)) ∧
    (s.setWim v).wim.getLsbD k = (decide (k < s.cfg.nwin) && v.getLsbD k) ∧
    (s.setTba v).tbrWord.getLsbD k =
      (if 12 ≤ k then v.getLsbD k else if 4 ≤ k then s.tbr.tt.getLsbD (k - 4) else false)

/-- In user mode the privileged instructions raise privileged_instruction before any other check (R443).
The privilege of RDASR and WRASR is the spec's decision D31. -/
def Obligations.UserModeRaisesPrivileged : Prop :=
  ∀ (s : State) (rd rs1 : Reg) (src : Operand2) (asr : Reg) (low : BitVec 14), s.psr.s = false →
    Raises (exec (.rdpsr rd rs1 low) s) s .privilegedInstruction ∧
    Raises (exec (.rdwim rd rs1 low) s) s .privilegedInstruction ∧
    Raises (exec (.rdtbr rd rs1 low) s) s .privilegedInstruction ∧
    Raises (exec (.wrpsr rd rs1 src) s) s .privilegedInstruction ∧
    Raises (exec (.wrwim rd rs1 src) s) s .privilegedInstruction ∧
    Raises (exec (.wrtbr rd rs1 src) s) s .privilegedInstruction ∧
    Raises (exec (.rett rd rs1 src) s) s .privilegedInstruction ∧
    Raises (exec (.rdasr rd asr low) s) s .privilegedInstruction ∧
    Raises (exec (.wrasr asr rs1 src) s) s .privilegedInstruction

/-- RDASR and WRASR, and STBAR's row by default, enter illegal_instruction in supervisor mode and privileged_instruction in user mode (R332, R342, R366).
The spec's decision D31. That exec of STBAR with IMPL_UNLISTED = illegal, an instruction no decoding then answers, does what RDASR 15 does is the model's (log 9). -/
def Obligations.AncillaryRegistersTrap : Prop :=
  ∀ (s : State) (rd rs1 asr : Reg) (src : Operand2) (low : BitVec 14) (t : Trap),
    t = (if s.psr.s then .illegalInstruction else .privilegedInstruction) → s.canEnter t = true →
    EntersTrap (exec (.rdasr rd asr low) s) s t ∧ EntersTrap (exec (.wrasr asr rs1 src) s) s t ∧
    ∀ low13 : BitVec 13, s.cfg.implUnlisted = .illegal → EntersTrap (exec (.stbar low13) s) s t

/-- ADDX, SUBX, ADDXcc and SUBXcc with IMPL_UNLISTED = v8 (R361, R362, R363, R364).
The spec's decision D3. -/
def Obligations.CarryForms : Prop :=
  ∀ (s : State) (rd rs1 : Reg) (src : Operand2), s.sized = true → s.quiet = true → s.cfg.implUnlisted = .v8 → ∀ (a b r d : Word) (k : Nat), a = s.reg rs1 → b = s.operand2 src →
    k = s.psr.icc.c.toNat → r = BitVec.ofNat 32 (a.toNat + b.toNat + k) → d = BitVec.ofInt 32 (a.toNat - b.toNat - k) →
    GivesReg (exec (.addx rd rs1 src) s) s rd r s.psr.icc s.y ∧
    GivesReg (exec (.subx rd rs1 src) s) s rd d s.psr.icc s.y ∧
    GivesReg (exec (.addxcc rd rs1 src) s) s rd r
      { n := r.msb, z := decide (r = 0), v := (a.msb && b.msb && !r.msb) || (!a.msb && !b.msb && r.msb),
        c := decide (2 ^ 32 ≤ a.toNat + b.toNat + k) } s.y ∧
    GivesReg (exec (.subxcc rd rs1 src) s) s rd d
      { n := d.msb, z := decide (d = 0), v := (a.msb && !b.msb && !d.msb) || (!a.msb && b.msb && d.msb),
        c := decide (a.toNat < b.toNat + k) } s.y

/-- TADDcc, TSUBcc and their trapping forms with IMPL_UNLISTED = v8 (R369, R370, R371).
The spec's decision D3. -/
def Obligations.TaggedForms : Prop :=
  ∀ (s : State) (rd rs1 : Reg) (src : Operand2), s.cfg.implUnlisted = .v8 → ∀ (a b : Word) (tag va vs : Bool), a = s.reg rs1 → b = s.operand2 src →
    tag = decide (a.toNat % 4 ≠ 0 ∨ b.toNat % 4 ≠ 0) →
    va = (decide (a.toInt + b.toInt < -2 ^ 31 ∨ 2 ^ 31 ≤ a.toInt + b.toInt) || tag) →
    vs = (decide (a.toInt - b.toInt < -2 ^ 31 ∨ 2 ^ 31 ≤ a.toInt - b.toInt) || tag) →
    (va = true → Raises (exec (.taddcctv rd rs1 src) s) s .tagOverflow) ∧
    (vs = true → Raises (exec (.tsubcctv rd rs1 src) s) s .tagOverflow) ∧
    (s.sized = true → s.quiet = true → ∀ fa fs : Icc,
      fa = { n := (a + b).msb, z := decide (a + b = 0), v := va, c := decide (2 ^ 32 ≤ a.toNat + b.toNat) } →
      fs = { n := (a - b).msb, z := decide (a - b = 0), v := vs, c := decide (a.toNat < b.toNat) } →
      GivesReg (exec (.taddcc rd rs1 src) s) s rd (a + b) fa s.y ∧
      GivesReg (exec (.tsubcc rd rs1 src) s) s rd (a - b) fs s.y ∧
      (va = false → GivesReg (exec (.taddcctv rd rs1 src) s) s rd (a + b) fa s.y) ∧
      (vs = false → GivesReg (exec (.tsubcctv rd rs1 src) s) s rd (a - b) fs s.y))

/-- FLUSH and STBAR with IMPL_UNLISTED = v8 have no effect but the advance (R365, R366).
The spec's decision D3. -/
def Obligations.OrderingNoOperations : Prop :=
  ∀ (s : State) (rd rs1 : Reg) (src : Operand2) (low : BitVec 13), s.quiet = true → s.cfg.implUnlisted = .v8 →
    GivesMove (exec (.flush rd rs1 src) s) s s.npc2 ∧ GivesMove (exec (.stbar low) s) s s.npc2

/-- LDSTUB and SWAP with IMPL_UNLISTED = v8 (R367, R373).
The spec's decision D3. -/
def Obligations.AtomicForms : Prop :=
  ∀ (s : State) (rd rs1 : Reg) (src : Operand2), s.cfg.implUnlisted = .v8 → ∀ ea : Word, ea = s.reg rs1 + s.operand2 src →
    (ea.toNat % 4 ≠ 0 → Raises (exec (.swap rd rs1 src) s) s .memAddressNotAligned) ∧
    (s.sized = true → s.quiet = true → Memory.wf s.mem = true →
      (s.portFaults .read ea 1 = false → s.portFaults .write ea 1 = false →
        ∃ t, exec (.ldstub rd rs1 src) s = .next t ∧ Proceeds s t s.npc2 ∧ SameSpecials s t ∧
          Writes s t rd (BitVec.ofNat 32 (s.byteAt ea).toNat) ∧
          ∀ a : Word, t.byteAt a = if a = ea then 0xFF else s.byteAt a) ∧
      (ea.toNat % 4 = 0 → s.portFaults .read ea 4 = false → s.portFaults .write ea 4 = false →
        ∃ t, exec (.swap rd rs1 src) s = .next t ∧ Proceeds s t s.npc2 ∧ SameSpecials s t ∧
          Writes s t rd (s.wordAt ea) ∧ t.wordAt ea = s.reg rd ∧
          ∀ a : Word, a ≠ ea → a ≠ ea + 1 → a ≠ ea + 2 → a ≠ ea + 3 → t.byteAt a = s.byteAt a))

/-- With IMPL_UNLISTED = illegal the eleven optional instructions are Invalid and raise illegal_instruction (R360, R361, R365, R366, R367, R369, R371, R373).
The spec's decision D3. That exec gives an instruction that the decoder never answers under this setting the effect of Invalid is the model's (log 9). -/
def Obligations.UnlistedByDefault : Prop :=
  ∀ (s : State) (rd rs1 : Reg) (src : Operand2) (low : BitVec 13), s.cfg.implUnlisted = .illegal →
    (∀ i ∈ ([.addx rd rs1 src, .addxcc rd rs1 src, .subx rd rs1 src, .subxcc rd rs1 src, .taddcc rd rs1 src, .tsubcc rd rs1 src,
      .taddcctv rd rs1 src, .tsubcctv rd rs1 src, .flush rd rs1 src, .ldstub rd rs1 src, .swap rd rs1 src] : List Instr),
      (∃ c, decode s.cfg.implUnlisted (encode i) = .invalid c) ∧ Raises (exec i s) s .illegalInstruction) ∧
    decode s.cfg.implUnlisted (encode (.stbar low)) = .instr (.rdasr 0 15 (0#1 ++ low)) ∧
    exec (.stbar low) s = exec (.rdasr 0 15 (0#1 ++ low)) s

/-- The alternate-space, floating-point, coprocessor and UNIMP rows are Invalid, raise and enter illegal_instruction under both settings (R368, R372, R374).
The spec's decisions D3 and D42. That exec gives an instruction that the decoder never answers the effect of Invalid is the model's (log 9). -/
def Obligations.InvalidRowsEnterIllegalInstruction : Prop :=
  ∀ (s : State) (rd rs1 : Reg) (src : Operand2) (opf : BitVec 9) (rs2 : Reg) (imm22 : BitVec 22) (a : Bool) (cond : BitVec 4),
    ∀ i ∈ ([.lda rd rs1 src, .lduba rd rs1 src, .lduha rd rs1 src, .ldda rd rs1 src, .sta rd rs1 src, .stba rd rs1 src,
      .stha rd rs1 src, .stda rd rs1 src, .ldsba rd rs1 src, .ldsha rd rs1 src, .ldstuba rd rs1 src, .swapa rd rs1 src,
      .ldf rd rs1 src, .ldfsr rd rs1 src, .lddf rd rs1 src, .stf rd rs1 src, .stfsr rd rs1 src, .stdfq rd rs1 src,
      .stdf rd rs1 src, .ldc rd rs1 src, .ldcsr rd rs1 src, .lddc rd rs1 src, .stc rd rs1 src, .stcsr rd rs1 src,
      .stdcq rd rs1 src, .stdc rd rs1 src, .fpop1 rd rs1 opf rs2, .fpop2 rd rs1 opf rs2, .cpop1 rd rs1 opf rs2, .cpop2 rd rs1 opf rs2,
      .unimp rd imm22, .fbfcc a cond imm22, .cbccc a cond imm22] : List Instr),
      (∀ u : Unlisted, ∃ c, decode u (encode i) = .invalid c) ∧
      Raises (exec i s) s .illegalInstruction ∧
      (s.canEnter .illegalInstruction = true → EntersTrap (exec i s) s .illegalInstruction) ∧
      (s.selects .illegalInstruction = true → s.psr.et = false → EntersError (exec i s) s .illegalInstruction)

/-- The arbitration selects the accepted, pending, eligible trap of smallest priority number in the table, ties by tt (R371, R441, R450, R460, R462).
The trap types are the spec's decision D15, the priority numbers and ties its D16, tag_overflow its D3, the eligibility of interrupts its D17. -/
def Obligations.TrapSelection : Prop :=
  (∀ p ∈ [(Trap.reset, 0x00#8, 1), (.instructionAccessException, 0x01#8, 5), (.privilegedInstruction, 0x03#8, 6), (.illegalInstruction, 0x02#8, 7),
      (.windowOverflow, 0x05#8, 9), (.windowUnderflow, 0x06#8, 9), (.memAddressNotAligned, 0x07#8, 10), (.dataAccessException, 0x09#8, 13),
      (.tagOverflow, 0x0A#8, 14), (.divisionByZero, 0x2A#8, 15)], Trap.tt p.1 = p.2.1 ∧ Trap.priority p.1 = p.2.2) ∧
  (∀ n : BitVec 7, (Trap.tt (.trapInstruction n)).toNat = 0x80 + n.toNat ∧ Trap.priority (.trapInstruction n) = 16) ∧
  (∀ level : BitVec 4, (Trap.tt (.interruptLevel level)).toNat = 0x10 + level.toNat ∧ Trap.priority (.interruptLevel level) = 32 - level.toNat) ∧
  (∀ (cfg : Config) (t : Trap), Trap.accepted cfg t = true ↔ t ≠ .interruptLevel 0 ∧ (t = .tagOverflow → cfg.implUnlisted = .v8)) ∧
  ∀ s : State,
    (∀ t : Trap, s.selectTrap = some t ↔
      ((Trap.accepted s.cfg t = true ∧ s.isPending t = true ∧ s.eligible t = true) ∧
        ∀ u : Trap, Trap.accepted s.cfg u = true → s.isPending u = true → s.eligible u = true → u ≠ t →
          Trap.priority t < Trap.priority u ∨ (Trap.priority t = Trap.priority u ∧ (Trap.tt t).toNat < (Trap.tt u).toNat))) ∧
    (s.selectTrap = none ↔ ∀ u : Trap, Trap.accepted s.cfg u = true → s.isPending u = true → s.eligible u = false) ∧
    (∀ level : BitVec 4, s.eligible (.interruptLevel level) =
      (decide (s.cfg.irqGating = .doc) || (s.psr.et && decide (level.toNat = 15 ∨ s.psr.pil.toNat < level.toNat)))) ∧
    (∀ t : Trap, Trap.isInterrupt t = false → s.eligible t = true)

/-- Trap entry writes PS, S, ET, CWP, l1, l2, TBR.tt, the triple and the pending bit, and nothing else (R403, R404, R453, R466, R467).
The saved pair of an interrupt is the spec's decision D18, the vector formula its D19. -/
def Obligations.TrapEntrySequence : Prop :=
  ∀ (e : State) (t : Trap), e.sized = true → e.selectTrap = some t → t ≠ .reset →
    (Trap.isInterrupt t = true ∨ e.psr.et = true) → e.portFaults .fetch (e.tbr.tba ++ Trap.tt t ++ 0#4) 4 = false →
    (e.annul = false → EntersTrap e.complete e t) ∧
    (e.annul = true → e.portFaults .fetch e.npc2 4 = false → EntersTrap e.complete
      { e with npc := e.npc2, npc2 := e.npc2 + 4, slot1 := e.wordAt e.npc2, annul := false } t)

/-- An interrupt is entered after the instruction of its step has had its full effect (R403, R404, R462, R466, R468).
The saved pair and the eligibility are the spec's decisions D17 and D18, the no-side-effect rule of a raising instruction its D20, the annulled slot's bookkeeping its D13. -/
def Obligations.InterruptAfterAdd : Prop :=
  (∀ (i : Instr) (s : State), s.sized = true →
    (∃ kind a n, exec i s = .fault (.hardFault kind a n) ∧ exec i { s with pending := 0 } = .fault (.hardFault kind a n)) ∨
    (∃ t, Trap.synchronous t = true ∧ Raises (exec i s) s t ∧ Raises (exec i { s with pending := 0 }) { s with pending := 0 } t) ∨
    ∃ e : State, exec i s = e.complete ∧ exec i { s with pending := 0 } = ({ e with pending := 0 } : State).complete ∧ e.pending = s.pending ∧ e.status = s.status ∧ e.cfg = s.cfg ∧ e.pc = s.pc ∧ e.npc = s.npc ∧
      ((s.cfg.irqGating = .doc ∨ (i.writesPsr = false ∧ ∀ rd rs1 src, i ≠ .rett rd rs1 src)) → e.selectTrap = s.selectTrap) ∧
      ∀ level : BitVec 4, e.selectTrap = some (.interruptLevel level) →
        e.portFaults .fetch (e.tbr.tba ++ (0x1#4 ++ level) ++ 0#4) 4 = false →
        (e.annul = false → EntersTrap (exec i s) e (.interruptLevel level)) ∧
        (e.annul = true → e.portFaults .fetch e.npc2 4 = false → EntersTrap (exec i s)
          { e with npc := e.npc2, npc2 := e.npc2 + 4, slot1 := e.wordAt e.npc2, annul := false } (.interruptLevel level))) ∧
  ∀ (s : State) (rd rs1 : Reg) (src : Operand2) (level : BitVec 4), s.sized = true → s.annul = false → s.selectTrap = some (.interruptLevel level) →
    s.portFaults .fetch (s.tbr.tba ++ (0x1#4 ++ level) ++ 0#4) 4 = false →
    ∃ e u, exec (.add rd rs1 src) s = .next u ∧ Writes s e rd (s.reg rs1 + s.operand2 src) ∧ SameSpecials s e ∧ SameBytes s e ∧
      e.pc = s.pc ∧ e.npc = s.npc ∧ e.pending = s.pending ∧ e.cfg = s.cfg ∧ TrapEntered e u (.interruptLevel level)

/-- A synchronous trap selected with ET = 0 is error mode, which is terminal (R470).
That boot alone leaves it is the spec's decision D33, which BootResult states in part; that error mode is a next state is the model's (log 7). -/
def Obligations.ErrorMode : Prop :=
  (∀ (s : State) (t : Trap), Trap.synchronous t = true → s.selects t = true → s.psr.et = false →
    EntersError (s.raise t).complete s t) ∧
  (∀ (s : State) (t : Trap), s.annul = false → s.selectTrap = some t → t ≠ .reset → Trap.isInterrupt t = false → s.psr.et = false →
    s.complete = .next { s with status := .error, stage := .boundary }) ∧
  ∀ s : State, s.status = .error → step s = .next s ∧ callFetch s = .next s ∧ callDecode s = .next s ∧ callExec s = .next s

/-- A selected reset re-runs boot at boot_entry whatever ET is (R403, R504, R506).
The latched entry and the clearing of the pending set are the spec's decision D11, the fix-up's bookkeeping its D13. That the latched entry's alignment is not tested again is the model's, deduced (log 15). -/
def Obligations.ResetTrap : Prop :=
  ∀ e : State, e.selectTrap = some .reset → e.portFaults .fetch e.bootEntry 4 = false →
    (e.annul = false → e.complete = .next { e with
      pc := e.bootEntry, npc := e.bootEntry + 4, npc2 := e.bootEntry + 8, psr := { e.psr with s := true }
      pending := 0, status := .normal, slot0 := e.wordAt e.bootEntry, stage := .boundary }) ∧
    (e.annul = true → e.portFaults .fetch e.npc2 4 = false → e.complete = .next { e with
      pc := e.bootEntry, npc := e.bootEntry + 4, npc2 := e.bootEntry + 8, psr := { e.psr with s := true }
      slot1 := e.wordAt e.npc2, annul := false
      pending := 0, status := .normal, slot0 := e.wordAt e.bootEntry, stage := .boundary })

/-- Boot sets the triple, S, the entry, the pending set and the status, and nothing else (R500, R504).
Everything but the triple, S and the prefetch is the spec's decisions D11 and D36. -/
def Obligations.BootResult : Prop :=
  (∀ (s : State) (e : Word), e.toNat % 4 = 0 → s.portFaults .fetch e 4 = false →
    callBoot e s = .next { s with
      bootEntry := e, pc := e, npc := e + 4, npc2 := e + 8, psr := { s.psr with s := true }
      annul := false, pending := 0, status := .normal, slot0 := s.wordAt e, stage := .boundary }) ∧
  (∀ (s : State) (e : Word), e.toNat % 4 ≠ 0 → callBoot e s = .refused (.bootMisaligned e)) ∧
  (∀ cfg : Config, step (State.powerOn cfg) = .refused .notBooted)

/-- The host's raise sets the bit of exactly the ids of the priority table (R450, R451, R452, R455).
The table is the spec's decision D16; the stage field is the model's (log 11). -/
def Obligations.RaiseAcceptsTheTable : Prop :=
  ∀ (s : State) (tt : BitVec 8), s.stage = .boundary →
    callRaise tt s =
      (if tt.toNat ∈ [0, 1, 2, 3, 5, 6, 7, 9, 0x2A] ∨ (0x11 ≤ tt.toNat ∧ tt.toNat ≤ 0x1F) ∨ 0x80 ≤ tt.toNat ∨
          (tt.toNat = 0x0A ∧ s.cfg.implUnlisted = .v8)
       then .next { s with pending := s.pending ||| BitVec.twoPow 256 tt.toNat }
       else .refused (.idNotAccepted tt))
end

