-- ==== Sys2Proof/Laws/Decode.lean ====
section
/-! SUPPORT. The fields of an encoded word, format by format, and the masks of the opcode table on it. -/

namespace Sys2Proof

/-! ### Format 3 -/

theorem encodeFormat3_getLsbD (op : BitVec 2) (rd : Reg) (op3 : BitVec 6) (rs1 : Reg) (low : BitVec 14) (i : Nat) :
    (encodeFormat3 op rd op3 rs1 low).getLsbD i =
      if i < 14 then low.getLsbD i else if i < 19 then rs1.getLsbD (i - 14) else if i < 25 then op3.getLsbD (i - 19)
      else if i < 30 then rd.getLsbD (i - 25) else op.getLsbD (i - 30) := by
  have h : (encodeFormat3 op rd op3 rs1 low).getLsbD i = (op ++ rd ++ op3 ++ rs1 ++ low : BitVec (2 + 5 + 6 + 5 + 14)).getLsbD i := rfl
  rw [h]
  simp only [BitVec.getLsbD_append]
  grind

theorem fieldOp_format3 (op : BitVec 2) (rd : Reg) (op3 : BitVec 6) (rs1 : Reg) (low : BitVec 14) :
    fieldOp (encodeFormat3 op rd op3 rs1 low) = op := by
  ext i hi
  simp only [fieldOp, BitVec.getElem_extractLsb', encodeFormat3_getLsbD]
  grind

theorem fieldRd_format3 (op : BitVec 2) (rd : Reg) (op3 : BitVec 6) (rs1 : Reg) (low : BitVec 14) :
    fieldRd (encodeFormat3 op rd op3 rs1 low) = rd := by
  ext i hi
  simp only [fieldRd, BitVec.getElem_extractLsb', encodeFormat3_getLsbD]
  grind

theorem fieldOp3_format3 (op : BitVec 2) (rd : Reg) (op3 : BitVec 6) (rs1 : Reg) (low : BitVec 14) :
    fieldOp3 (encodeFormat3 op rd op3 rs1 low) = op3 := by
  ext i hi
  simp only [fieldOp3, BitVec.getElem_extractLsb', encodeFormat3_getLsbD]
  grind

theorem fieldRs1_format3 (op : BitVec 2) (rd : Reg) (op3 : BitVec 6) (rs1 : Reg) (low : BitVec 14) :
    fieldRs1 (encodeFormat3 op rd op3 rs1 low) = rs1 := by
  ext i hi
  simp only [fieldRs1, BitVec.getElem_extractLsb', encodeFormat3_getLsbD]
  grind

theorem fieldLow_format3 (op : BitVec 2) (rd : Reg) (op3 : BitVec 6) (rs1 : Reg) (low : BitVec 14) :
    fieldLow (encodeFormat3 op rd op3 rs1 low) = low := by
  ext i hi
  simp only [fieldLow, BitVec.getElem_extractLsb', encodeFormat3_getLsbD]
  grind

/-- The two parts of Ticc's rd field (R95). -/
theorem condField_getLsbD (a : Bool) (cond : BitVec 4) (i : Nat) :
    (condField a cond).getLsbD i = if i < 4 then cond.getLsbD i else (BitVec.ofBool a).getLsbD (i - 4) := by
  have h : (condField a cond).getLsbD i = (BitVec.ofBool a ++ cond : BitVec (1 + 4)).getLsbD i := rfl
  rw [h]
  simp only [BitVec.getLsbD_append]

theorem fieldA_format3 (op : BitVec 2) (a : Bool) (cond : BitVec 4) (op3 : BitVec 6) (rs1 : Reg) (low : BitVec 14) :
    fieldA (encodeFormat3 op (condField a cond) op3 rs1 low) = a := by
  simp only [fieldA, encodeFormat3_getLsbD, condField_getLsbD]
  simp

theorem fieldCond_format3 (op : BitVec 2) (a : Bool) (cond : BitVec 4) (op3 : BitVec 6) (rs1 : Reg) (low : BitVec 14) :
    fieldCond (encodeFormat3 op (condField a cond) op3 rs1 low) = cond := by
  ext i hi
  simp only [fieldCond, BitVec.getElem_extractLsb', encodeFormat3_getLsbD, condField_getLsbD]
  grind

/-- The second operand is read back from its encoding (R94, R98). -/
theorem decodeOperand2_encode (src : Operand2) : decodeOperand2 (encodeOperand2 src) = src := by
  cases src with
  | reg asi rs2 =>
    have h : ∀ i, (encodeOperand2 (.reg asi rs2)).getLsbD i =
        if i < 5 then rs2.getLsbD i else if i < 13 then asi.getLsbD (i - 5) else false := by
      intro i
      have : (encodeOperand2 (.reg asi rs2)).getLsbD i = (0#1 ++ asi ++ rs2 : BitVec (1 + 8 + 5)).getLsbD i := rfl
      rw [this]
      simp only [BitVec.getLsbD_append]
      grind
    simp only [decodeOperand2, h]
    simp
    constructor <;> ext i hi <;> simp only [BitVec.getElem_extractLsb', h] <;> grind
  | imm v =>
    have h : ∀ i, (encodeOperand2 (.imm v)).getLsbD i = if i < 13 then v.getLsbD i else (1#1).getLsbD (i - 13) := by
      intro i
      have : (encodeOperand2 (.imm v)).getLsbD i = (1#1 ++ v : BitVec (1 + 13)).getLsbD i := rfl
      rw [this]
      simp only [BitVec.getLsbD_append]
    simp only [decodeOperand2, h]
    simp
    ext i hi
    simp only [BitVec.getElem_extractLsb', h]
    grind

/-! ### Format 2 -/

theorem encodeFormat2_getLsbD (rd : Reg) (op2 : BitVec 3) (imm22 : BitVec 22) (i : Nat) :
    (encodeFormat2 rd op2 imm22).getLsbD i =
      if i < 22 then imm22.getLsbD i else if i < 25 then op2.getLsbD (i - 22) else if i < 30 then rd.getLsbD (i - 25) else false := by
  have h : (encodeFormat2 rd op2 imm22).getLsbD i = (0#2 ++ rd ++ op2 ++ imm22 : BitVec (2 + 5 + 3 + 22)).getLsbD i := rfl
  rw [h]
  simp only [BitVec.getLsbD_append]
  grind

theorem fieldOp_format2 (rd : Reg) (op2 : BitVec 3) (imm22 : BitVec 22) : fieldOp (encodeFormat2 rd op2 imm22) = 0#2 := by
  ext i hi
  simp only [fieldOp, BitVec.getElem_extractLsb', encodeFormat2_getLsbD]
  grind

theorem fieldRd_format2 (rd : Reg) (op2 : BitVec 3) (imm22 : BitVec 22) : fieldRd (encodeFormat2 rd op2 imm22) = rd := by
  ext i hi
  simp only [fieldRd, BitVec.getElem_extractLsb', encodeFormat2_getLsbD]
  grind

theorem fieldOp2_format2 (rd : Reg) (op2 : BitVec 3) (imm22 : BitVec 22) : fieldOp2 (encodeFormat2 rd op2 imm22) = op2 := by
  ext i hi
  simp only [fieldOp2, BitVec.getElem_extractLsb', encodeFormat2_getLsbD]
  grind

theorem fieldImm22_format2 (rd : Reg) (op2 : BitVec 3) (imm22 : BitVec 22) : fieldImm22 (encodeFormat2 rd op2 imm22) = imm22 := by
  ext i hi
  simp only [fieldImm22, BitVec.getElem_extractLsb', encodeFormat2_getLsbD]
  grind

theorem fieldA_format2 (a : Bool) (cond : BitVec 4) (op2 : BitVec 3) (imm22 : BitVec 22) :
    fieldA (encodeFormat2 (condField a cond) op2 imm22) = a := by
  simp only [fieldA, encodeFormat2_getLsbD, condField_getLsbD]
  simp

theorem fieldCond_format2 (a : Bool) (cond : BitVec 4) (op2 : BitVec 3) (imm22 : BitVec 22) :
    fieldCond (encodeFormat2 (condField a cond) op2 imm22) = cond := by
  ext i hi
  simp only [fieldCond, BitVec.getElem_extractLsb', encodeFormat2_getLsbD, condField_getLsbD]
  grind

/-! ### Format 1 -/

theorem fieldOp_call (disp30 : BitVec 30) : fieldOp (encode (.call disp30)) = 1#2 := by
  ext i hi
  have h : ∀ j, (encode (.call disp30)).getLsbD j = (1#2 ++ disp30 : BitVec (2 + 30)).getLsbD j := fun _ => rfl
  simp only [fieldOp, BitVec.getElem_extractLsb', h, BitVec.getLsbD_append]
  rw [if_neg (by omega), Nat.add_sub_cancel_left, BitVec.getLsbD_eq_getElem hi]

theorem fieldDisp30_call (disp30 : BitVec 30) : fieldDisp30 (encode (.call disp30)) = disp30 := by
  ext i hi
  have h : ∀ j, (encode (.call disp30)).getLsbD j = (1#2 ++ disp30 : BitVec (2 + 30)).getLsbD j := fun _ => rfl
  simp only [fieldDisp30, BitVec.getElem_extractLsb', h, BitVec.getLsbD_append]
  rw [if_pos (by omega), Nat.zero_add, BitVec.getLsbD_eq_getElem hi]

/-! ### Masks -/

theorem encodeFormat3_and (op op' : BitVec 2) (rd rd' : Reg) (op3 op3' : BitVec 6) (rs1 rs1' : Reg) (low low' : BitVec 14) :
    encodeFormat3 op rd op3 rs1 low &&& encodeFormat3 op' rd' op3' rs1' low' =
      encodeFormat3 (op &&& op') (rd &&& rd') (op3 &&& op3') (rs1 &&& rs1') (low &&& low') := by
  show (op ++ rd ++ op3 ++ rs1 ++ low) &&& (op' ++ rd' ++ op3' ++ rs1' ++ low') = _
  simp only [BitVec.and_append]
  rfl

theorem encodeFormat2_and (rd rd' : Reg) (op2 op2' : BitVec 3) (imm imm' : BitVec 22) (op' : BitVec 2) :
    encodeFormat2 rd op2 imm &&& (op' ++ rd' ++ op2' ++ imm') = encodeFormat2 (rd &&& rd') (op2 &&& op2') (imm &&& imm') := by
  show (0#2 ++ rd ++ op2 ++ imm) &&& (op' ++ rd' ++ op2' ++ imm') = _
  simp only [BitVec.and_append]
  simp [encodeFormat2]

/-- The mask of a row that fixes op and op3. -/
theorem encodeFormat3_mask (op : BitVec 2) (rd : Reg) (op3 : BitVec 6) (rs1 : Reg) (low : BitVec 14) :
    encodeFormat3 op rd op3 rs1 low &&& 0xC1F80000 = encodeFormat3 op 0 op3 0 0 := by
  have h : (0xC1F80000 : Word) = encodeFormat3 3#2 0 63#6 0 0 := by decide
  rw [h, encodeFormat3_and]
  congr 1 <;> first | exact BitVec.and_allOnes | exact BitVec.and_zero

/-- The mask of a row that also fixes rs1. -/
theorem encodeFormat3_mask_rs1 (op : BitVec 2) (rd : Reg) (op3 : BitVec 6) (rs1 : Reg) (low : BitVec 14) :
    encodeFormat3 op rd op3 rs1 low &&& 0xC1FFC000 = encodeFormat3 op 0 op3 rs1 0 := by
  have h : (0xC1FFC000 : Word) = encodeFormat3 3#2 0 63#6 31 0 := by decide
  rw [h, encodeFormat3_and]
  congr 1 <;> first | exact BitVec.and_allOnes | exact BitVec.and_zero

/-- The mask of a row that also fixes rd. -/
theorem encodeFormat3_mask_rd (op : BitVec 2) (rd : Reg) (op3 : BitVec 6) (rs1 : Reg) (low : BitVec 14) :
    encodeFormat3 op rd op3 rs1 low &&& 0xFFF80000 = encodeFormat3 op rd op3 0 0 := by
  have h : (0xFFF80000 : Word) = encodeFormat3 3#2 31 63#6 0 0 := by decide
  rw [h, encodeFormat3_and]
  congr 1 <;> first | exact BitVec.and_allOnes | exact BitVec.and_zero

/-- The mask of a Ticc row: everything but bit 29 and the operands. -/
theorem encodeFormat3_mask_cond (op : BitVec 2) (a : Bool) (cond : BitVec 4) (op3 : BitVec 6) (rs1 : Reg) (low : BitVec 14) :
    encodeFormat3 op (condField a cond) op3 rs1 low &&& 0xDFF80000 = encodeFormat3 op (condField false cond) op3 0 0 := by
  have h : (0xDFF80000 : Word) = encodeFormat3 3#2 15 63#6 0 0 := by decide
  rw [h, encodeFormat3_and]
  congr 1
  · exact BitVec.and_allOnes
  · cases a <;> revert cond <;> decide
  · exact BitVec.and_allOnes
  · exact BitVec.and_zero
  · exact BitVec.and_zero

/-- The mask of STBAR: everything but the thirteen low bits. -/
theorem encodeFormat3_mask_stbar (op : BitVec 2) (rd : Reg) (op3 : BitVec 6) (rs1 : Reg) (low : BitVec 13) :
    encodeFormat3 op rd op3 rs1 (0#1 ++ low) &&& 0xFFFFE000 = encodeFormat3 op rd op3 rs1 0 := by
  have h : (0xFFFFE000 : Word) = encodeFormat3 3#2 31 63#6 31 (1#1 ++ 0#13) := by decide
  rw [h, encodeFormat3_and]
  congr 1
  · exact BitVec.and_allOnes
  · exact BitVec.and_allOnes
  · exact BitVec.and_allOnes
  · exact BitVec.and_allOnes
  · rw [BitVec.and_append]
    simp

/-- The mask of a format-2 row that fixes op and op2. -/
theorem encodeFormat2_mask (rd : Reg) (op2 : BitVec 3) (imm22 : BitVec 22) :
    encodeFormat2 rd op2 imm22 &&& 0xC1C00000 = encodeFormat2 0 op2 0 := by
  have h : (0xC1C00000 : Word) = 3#2 ++ 0#5 ++ 7#3 ++ 0#22 := by decide
  rw [h, encodeFormat2_and]
  congr 1 <;> first | exact BitVec.and_allOnes | exact BitVec.and_zero

/-- The mask of a Bicc row. -/
theorem encodeFormat2_mask_cond (a : Bool) (cond : BitVec 4) (op2 : BitVec 3) (imm22 : BitVec 22) :
    encodeFormat2 (condField a cond) op2 imm22 &&& 0xDFC00000 = encodeFormat2 (condField false cond) op2 0 := by
  have h : (0xDFC00000 : Word) = 3#2 ++ 15#5 ++ 7#3 ++ 0#22 := by decide
  rw [h, encodeFormat2_and]
  congr 1
  · cases a <;> revert cond <;> decide
  · exact BitVec.and_allOnes
  · exact BitVec.and_zero

theorem call_mask (disp30 : BitVec 30) : encode (.call disp30) &&& 0xC0000000 = 0x40000000 := by
  have h : (0xC0000000 : Word) = 3#2 ++ 0#30 := by decide
  rw [h]
  show (1#2 ++ disp30) &&& (3#2 ++ 0#30) = _
  rw [BitVec.and_append]
  simp

end Sys2Proof
end

