-- ==== Sys2Proof/Laws/State.lean ====
section
/-! SUPPORT. One lemma for each field and each update of the state, so that no later proof unfolds a record update. -/

namespace Sys2Proof.Machine

/-! ### `State.setIcc` -/

@[simp] theorem State.setIcc_cfg (s : State) (f : Icc) : (s.setIcc f).cfg = s.cfg := rfl
@[simp] theorem State.setIcc_globals (s : State) (f : Icc) : (s.setIcc f).globals = s.globals := rfl
@[simp] theorem State.setIcc_windows (s : State) (f : Icc) : (s.setIcc f).windows = s.windows := rfl
@[simp] theorem State.setIcc_pc (s : State) (f : Icc) : (s.setIcc f).pc = s.pc := rfl
@[simp] theorem State.setIcc_npc (s : State) (f : Icc) : (s.setIcc f).npc = s.npc := rfl
@[simp] theorem State.setIcc_npc2 (s : State) (f : Icc) : (s.setIcc f).npc2 = s.npc2 := rfl
@[simp] theorem State.setIcc_psr (s : State) (f : Icc) : (s.setIcc f).psr = { s.psr with icc := f } := rfl
@[simp] theorem State.setIcc_wim (s : State) (f : Icc) : (s.setIcc f).wim = s.wim := rfl
@[simp] theorem State.setIcc_tbr (s : State) (f : Icc) : (s.setIcc f).tbr = s.tbr := rfl
@[simp] theorem State.setIcc_y (s : State) (f : Icc) : (s.setIcc f).y = s.y := rfl
@[simp] theorem State.setIcc_slot0 (s : State) (f : Icc) : (s.setIcc f).slot0 = s.slot0 := rfl
@[simp] theorem State.setIcc_slot1 (s : State) (f : Icc) : (s.setIcc f).slot1 = s.slot1 := rfl
@[simp] theorem State.setIcc_annul (s : State) (f : Icc) : (s.setIcc f).annul = s.annul := rfl
@[simp] theorem State.setIcc_dec (s : State) (f : Icc) : (s.setIcc f).dec = s.dec := rfl
@[simp] theorem State.setIcc_pending (s : State) (f : Icc) : (s.setIcc f).pending = s.pending := rfl
@[simp] theorem State.setIcc_status (s : State) (f : Icc) : (s.setIcc f).status = s.status := rfl
@[simp] theorem State.setIcc_bootEntry (s : State) (f : Icc) : (s.setIcc f).bootEntry = s.bootEntry := rfl
@[simp] theorem State.setIcc_stage (s : State) (f : Icc) : (s.setIcc f).stage = s.stage := rfl
@[simp] theorem State.setIcc_mem (s : State) (f : Icc) : (s.setIcc f).mem = s.mem := rfl

/-! ### `State.setY` -/

@[simp] theorem State.setY_cfg (s : State) (v : Word) : (s.setY v).cfg = s.cfg := rfl
@[simp] theorem State.setY_globals (s : State) (v : Word) : (s.setY v).globals = s.globals := rfl
@[simp] theorem State.setY_windows (s : State) (v : Word) : (s.setY v).windows = s.windows := rfl
@[simp] theorem State.setY_pc (s : State) (v : Word) : (s.setY v).pc = s.pc := rfl
@[simp] theorem State.setY_npc (s : State) (v : Word) : (s.setY v).npc = s.npc := rfl
@[simp] theorem State.setY_npc2 (s : State) (v : Word) : (s.setY v).npc2 = s.npc2 := rfl
@[simp] theorem State.setY_psr (s : State) (v : Word) : (s.setY v).psr = s.psr := rfl
@[simp] theorem State.setY_wim (s : State) (v : Word) : (s.setY v).wim = s.wim := rfl
@[simp] theorem State.setY_tbr (s : State) (v : Word) : (s.setY v).tbr = s.tbr := rfl
@[simp] theorem State.setY_y (s : State) (v : Word) : (s.setY v).y = v := rfl
@[simp] theorem State.setY_slot0 (s : State) (v : Word) : (s.setY v).slot0 = s.slot0 := rfl
@[simp] theorem State.setY_slot1 (s : State) (v : Word) : (s.setY v).slot1 = s.slot1 := rfl
@[simp] theorem State.setY_annul (s : State) (v : Word) : (s.setY v).annul = s.annul := rfl
@[simp] theorem State.setY_dec (s : State) (v : Word) : (s.setY v).dec = s.dec := rfl
@[simp] theorem State.setY_pending (s : State) (v : Word) : (s.setY v).pending = s.pending := rfl
@[simp] theorem State.setY_status (s : State) (v : Word) : (s.setY v).status = s.status := rfl
@[simp] theorem State.setY_bootEntry (s : State) (v : Word) : (s.setY v).bootEntry = s.bootEntry := rfl
@[simp] theorem State.setY_stage (s : State) (v : Word) : (s.setY v).stage = s.stage := rfl
@[simp] theorem State.setY_mem (s : State) (v : Word) : (s.setY v).mem = s.mem := rfl

/-! ### `State.setNpc2` -/

@[simp] theorem State.setNpc2_cfg (s : State) (t : Word) : (s.setNpc2 t).cfg = s.cfg := rfl
@[simp] theorem State.setNpc2_globals (s : State) (t : Word) : (s.setNpc2 t).globals = s.globals := rfl
@[simp] theorem State.setNpc2_windows (s : State) (t : Word) : (s.setNpc2 t).windows = s.windows := rfl
@[simp] theorem State.setNpc2_pc (s : State) (t : Word) : (s.setNpc2 t).pc = s.pc := rfl
@[simp] theorem State.setNpc2_npc (s : State) (t : Word) : (s.setNpc2 t).npc = s.npc := rfl
@[simp] theorem State.setNpc2_npc2 (s : State) (t : Word) : (s.setNpc2 t).npc2 = t := rfl
@[simp] theorem State.setNpc2_psr (s : State) (t : Word) : (s.setNpc2 t).psr = s.psr := rfl
@[simp] theorem State.setNpc2_wim (s : State) (t : Word) : (s.setNpc2 t).wim = s.wim := rfl
@[simp] theorem State.setNpc2_tbr (s : State) (t : Word) : (s.setNpc2 t).tbr = s.tbr := rfl
@[simp] theorem State.setNpc2_y (s : State) (t : Word) : (s.setNpc2 t).y = s.y := rfl
@[simp] theorem State.setNpc2_slot0 (s : State) (t : Word) : (s.setNpc2 t).slot0 = s.slot0 := rfl
@[simp] theorem State.setNpc2_slot1 (s : State) (t : Word) : (s.setNpc2 t).slot1 = s.slot1 := rfl
@[simp] theorem State.setNpc2_annul (s : State) (t : Word) : (s.setNpc2 t).annul = s.annul := rfl
@[simp] theorem State.setNpc2_dec (s : State) (t : Word) : (s.setNpc2 t).dec = s.dec := rfl
@[simp] theorem State.setNpc2_pending (s : State) (t : Word) : (s.setNpc2 t).pending = s.pending := rfl
@[simp] theorem State.setNpc2_status (s : State) (t : Word) : (s.setNpc2 t).status = s.status := rfl
@[simp] theorem State.setNpc2_bootEntry (s : State) (t : Word) : (s.setNpc2 t).bootEntry = s.bootEntry := rfl
@[simp] theorem State.setNpc2_stage (s : State) (t : Word) : (s.setNpc2 t).stage = s.stage := rfl
@[simp] theorem State.setNpc2_mem (s : State) (t : Word) : (s.setNpc2 t).mem = s.mem := rfl

/-! ### `State.setAnnul` -/

@[simp] theorem State.setAnnul_cfg (s : State) : (s.setAnnul).cfg = s.cfg := rfl
@[simp] theorem State.setAnnul_globals (s : State) : (s.setAnnul).globals = s.globals := rfl
@[simp] theorem State.setAnnul_windows (s : State) : (s.setAnnul).windows = s.windows := rfl
@[simp] theorem State.setAnnul_pc (s : State) : (s.setAnnul).pc = s.pc := rfl
@[simp] theorem State.setAnnul_npc (s : State) : (s.setAnnul).npc = s.npc := rfl
@[simp] theorem State.setAnnul_npc2 (s : State) : (s.setAnnul).npc2 = s.npc2 := rfl
@[simp] theorem State.setAnnul_psr (s : State) : (s.setAnnul).psr = s.psr := rfl
@[simp] theorem State.setAnnul_wim (s : State) : (s.setAnnul).wim = s.wim := rfl
@[simp] theorem State.setAnnul_tbr (s : State) : (s.setAnnul).tbr = s.tbr := rfl
@[simp] theorem State.setAnnul_y (s : State) : (s.setAnnul).y = s.y := rfl
@[simp] theorem State.setAnnul_slot0 (s : State) : (s.setAnnul).slot0 = s.slot0 := rfl
@[simp] theorem State.setAnnul_slot1 (s : State) : (s.setAnnul).slot1 = s.slot1 := rfl
@[simp] theorem State.setAnnul_annul (s : State) : (s.setAnnul).annul = true := rfl
@[simp] theorem State.setAnnul_dec (s : State) : (s.setAnnul).dec = s.dec := rfl
@[simp] theorem State.setAnnul_pending (s : State) : (s.setAnnul).pending = s.pending := rfl
@[simp] theorem State.setAnnul_status (s : State) : (s.setAnnul).status = s.status := rfl
@[simp] theorem State.setAnnul_bootEntry (s : State) : (s.setAnnul).bootEntry = s.bootEntry := rfl
@[simp] theorem State.setAnnul_stage (s : State) : (s.setAnnul).stage = s.stage := rfl
@[simp] theorem State.setAnnul_mem (s : State) : (s.setAnnul).mem = s.mem := rfl

/-! ### `State.setCwp` -/

@[simp] theorem State.setCwp_cfg (s : State) (w : BitVec 5) : (s.setCwp w).cfg = s.cfg := rfl
@[simp] theorem State.setCwp_globals (s : State) (w : BitVec 5) : (s.setCwp w).globals = s.globals := rfl
@[simp] theorem State.setCwp_windows (s : State) (w : BitVec 5) : (s.setCwp w).windows = s.windows := rfl
@[simp] theorem State.setCwp_pc (s : State) (w : BitVec 5) : (s.setCwp w).pc = s.pc := rfl
@[simp] theorem State.setCwp_npc (s : State) (w : BitVec 5) : (s.setCwp w).npc = s.npc := rfl
@[simp] theorem State.setCwp_npc2 (s : State) (w : BitVec 5) : (s.setCwp w).npc2 = s.npc2 := rfl
@[simp] theorem State.setCwp_psr (s : State) (w : BitVec 5) : (s.setCwp w).psr = { s.psr with cwp := w } := rfl
@[simp] theorem State.setCwp_wim (s : State) (w : BitVec 5) : (s.setCwp w).wim = s.wim := rfl
@[simp] theorem State.setCwp_tbr (s : State) (w : BitVec 5) : (s.setCwp w).tbr = s.tbr := rfl
@[simp] theorem State.setCwp_y (s : State) (w : BitVec 5) : (s.setCwp w).y = s.y := rfl
@[simp] theorem State.setCwp_slot0 (s : State) (w : BitVec 5) : (s.setCwp w).slot0 = s.slot0 := rfl
@[simp] theorem State.setCwp_slot1 (s : State) (w : BitVec 5) : (s.setCwp w).slot1 = s.slot1 := rfl
@[simp] theorem State.setCwp_annul (s : State) (w : BitVec 5) : (s.setCwp w).annul = s.annul := rfl
@[simp] theorem State.setCwp_dec (s : State) (w : BitVec 5) : (s.setCwp w).dec = s.dec := rfl
@[simp] theorem State.setCwp_pending (s : State) (w : BitVec 5) : (s.setCwp w).pending = s.pending := rfl
@[simp] theorem State.setCwp_status (s : State) (w : BitVec 5) : (s.setCwp w).status = s.status := rfl
@[simp] theorem State.setCwp_bootEntry (s : State) (w : BitVec 5) : (s.setCwp w).bootEntry = s.bootEntry := rfl
@[simp] theorem State.setCwp_stage (s : State) (w : BitVec 5) : (s.setCwp w).stage = s.stage := rfl
@[simp] theorem State.setCwp_mem (s : State) (w : BitVec 5) : (s.setCwp w).mem = s.mem := rfl

/-! ### `State.setPsr` -/

@[simp] theorem State.setPsr_cfg (s : State) (p : Psr) : (s.setPsr p).cfg = s.cfg := rfl
@[simp] theorem State.setPsr_globals (s : State) (p : Psr) : (s.setPsr p).globals = s.globals := rfl
@[simp] theorem State.setPsr_windows (s : State) (p : Psr) : (s.setPsr p).windows = s.windows := rfl
@[simp] theorem State.setPsr_pc (s : State) (p : Psr) : (s.setPsr p).pc = s.pc := rfl
@[simp] theorem State.setPsr_npc (s : State) (p : Psr) : (s.setPsr p).npc = s.npc := rfl
@[simp] theorem State.setPsr_npc2 (s : State) (p : Psr) : (s.setPsr p).npc2 = s.npc2 := rfl
@[simp] theorem State.setPsr_psr (s : State) (p : Psr) : (s.setPsr p).psr = p := rfl
@[simp] theorem State.setPsr_wim (s : State) (p : Psr) : (s.setPsr p).wim = s.wim := rfl
@[simp] theorem State.setPsr_tbr (s : State) (p : Psr) : (s.setPsr p).tbr = s.tbr := rfl
@[simp] theorem State.setPsr_y (s : State) (p : Psr) : (s.setPsr p).y = s.y := rfl
@[simp] theorem State.setPsr_slot0 (s : State) (p : Psr) : (s.setPsr p).slot0 = s.slot0 := rfl
@[simp] theorem State.setPsr_slot1 (s : State) (p : Psr) : (s.setPsr p).slot1 = s.slot1 := rfl
@[simp] theorem State.setPsr_annul (s : State) (p : Psr) : (s.setPsr p).annul = s.annul := rfl
@[simp] theorem State.setPsr_dec (s : State) (p : Psr) : (s.setPsr p).dec = s.dec := rfl
@[simp] theorem State.setPsr_pending (s : State) (p : Psr) : (s.setPsr p).pending = s.pending := rfl
@[simp] theorem State.setPsr_status (s : State) (p : Psr) : (s.setPsr p).status = s.status := rfl
@[simp] theorem State.setPsr_bootEntry (s : State) (p : Psr) : (s.setPsr p).bootEntry = s.bootEntry := rfl
@[simp] theorem State.setPsr_stage (s : State) (p : Psr) : (s.setPsr p).stage = s.stage := rfl
@[simp] theorem State.setPsr_mem (s : State) (p : Psr) : (s.setPsr p).mem = s.mem := rfl

/-! ### `State.setWim` -/

@[simp] theorem State.setWim_cfg (s : State) (v : Word) : (s.setWim v).cfg = s.cfg := rfl
@[simp] theorem State.setWim_globals (s : State) (v : Word) : (s.setWim v).globals = s.globals := rfl
@[simp] theorem State.setWim_windows (s : State) (v : Word) : (s.setWim v).windows = s.windows := rfl
@[simp] theorem State.setWim_pc (s : State) (v : Word) : (s.setWim v).pc = s.pc := rfl
@[simp] theorem State.setWim_npc (s : State) (v : Word) : (s.setWim v).npc = s.npc := rfl
@[simp] theorem State.setWim_npc2 (s : State) (v : Word) : (s.setWim v).npc2 = s.npc2 := rfl
@[simp] theorem State.setWim_psr (s : State) (v : Word) : (s.setWim v).psr = s.psr := rfl
@[simp] theorem State.setWim_wim (s : State) (v : Word) : (s.setWim v).wim = v &&& wimMask s.cfg.nwin := rfl
@[simp] theorem State.setWim_tbr (s : State) (v : Word) : (s.setWim v).tbr = s.tbr := rfl
@[simp] theorem State.setWim_y (s : State) (v : Word) : (s.setWim v).y = s.y := rfl
@[simp] theorem State.setWim_slot0 (s : State) (v : Word) : (s.setWim v).slot0 = s.slot0 := rfl
@[simp] theorem State.setWim_slot1 (s : State) (v : Word) : (s.setWim v).slot1 = s.slot1 := rfl
@[simp] theorem State.setWim_annul (s : State) (v : Word) : (s.setWim v).annul = s.annul := rfl
@[simp] theorem State.setWim_dec (s : State) (v : Word) : (s.setWim v).dec = s.dec := rfl
@[simp] theorem State.setWim_pending (s : State) (v : Word) : (s.setWim v).pending = s.pending := rfl
@[simp] theorem State.setWim_status (s : State) (v : Word) : (s.setWim v).status = s.status := rfl
@[simp] theorem State.setWim_bootEntry (s : State) (v : Word) : (s.setWim v).bootEntry = s.bootEntry := rfl
@[simp] theorem State.setWim_stage (s : State) (v : Word) : (s.setWim v).stage = s.stage := rfl
@[simp] theorem State.setWim_mem (s : State) (v : Word) : (s.setWim v).mem = s.mem := rfl

/-! ### `State.setTba` -/

@[simp] theorem State.setTba_cfg (s : State) (v : Word) : (s.setTba v).cfg = s.cfg := rfl
@[simp] theorem State.setTba_globals (s : State) (v : Word) : (s.setTba v).globals = s.globals := rfl
@[simp] theorem State.setTba_windows (s : State) (v : Word) : (s.setTba v).windows = s.windows := rfl
@[simp] theorem State.setTba_pc (s : State) (v : Word) : (s.setTba v).pc = s.pc := rfl
@[simp] theorem State.setTba_npc (s : State) (v : Word) : (s.setTba v).npc = s.npc := rfl
@[simp] theorem State.setTba_npc2 (s : State) (v : Word) : (s.setTba v).npc2 = s.npc2 := rfl
@[simp] theorem State.setTba_psr (s : State) (v : Word) : (s.setTba v).psr = s.psr := rfl
@[simp] theorem State.setTba_wim (s : State) (v : Word) : (s.setTba v).wim = s.wim := rfl
@[simp] theorem State.setTba_tbr (s : State) (v : Word) : (s.setTba v).tbr = { s.tbr with tba := v.extractLsb' 12 20 } := rfl
@[simp] theorem State.setTba_y (s : State) (v : Word) : (s.setTba v).y = s.y := rfl
@[simp] theorem State.setTba_slot0 (s : State) (v : Word) : (s.setTba v).slot0 = s.slot0 := rfl
@[simp] theorem State.setTba_slot1 (s : State) (v : Word) : (s.setTba v).slot1 = s.slot1 := rfl
@[simp] theorem State.setTba_annul (s : State) (v : Word) : (s.setTba v).annul = s.annul := rfl
@[simp] theorem State.setTba_dec (s : State) (v : Word) : (s.setTba v).dec = s.dec := rfl
@[simp] theorem State.setTba_pending (s : State) (v : Word) : (s.setTba v).pending = s.pending := rfl
@[simp] theorem State.setTba_status (s : State) (v : Word) : (s.setTba v).status = s.status := rfl
@[simp] theorem State.setTba_bootEntry (s : State) (v : Word) : (s.setTba v).bootEntry = s.bootEntry := rfl
@[simp] theorem State.setTba_stage (s : State) (v : Word) : (s.setTba v).stage = s.stage := rfl
@[simp] theorem State.setTba_mem (s : State) (v : Word) : (s.setTba v).mem = s.mem := rfl

/-! ### `State.raise` -/

@[simp] theorem State.raise_cfg (s : State) (t : Trap) : (s.raise t).cfg = s.cfg := rfl
@[simp] theorem State.raise_globals (s : State) (t : Trap) : (s.raise t).globals = s.globals := rfl
@[simp] theorem State.raise_windows (s : State) (t : Trap) : (s.raise t).windows = s.windows := rfl
@[simp] theorem State.raise_pc (s : State) (t : Trap) : (s.raise t).pc = s.pc := rfl
@[simp] theorem State.raise_npc (s : State) (t : Trap) : (s.raise t).npc = s.npc := rfl
@[simp] theorem State.raise_npc2 (s : State) (t : Trap) : (s.raise t).npc2 = s.npc2 := rfl
@[simp] theorem State.raise_psr (s : State) (t : Trap) : (s.raise t).psr = s.psr := rfl
@[simp] theorem State.raise_wim (s : State) (t : Trap) : (s.raise t).wim = s.wim := rfl
@[simp] theorem State.raise_tbr (s : State) (t : Trap) : (s.raise t).tbr = s.tbr := rfl
@[simp] theorem State.raise_y (s : State) (t : Trap) : (s.raise t).y = s.y := rfl
@[simp] theorem State.raise_slot0 (s : State) (t : Trap) : (s.raise t).slot0 = s.slot0 := rfl
@[simp] theorem State.raise_slot1 (s : State) (t : Trap) : (s.raise t).slot1 = s.slot1 := rfl
@[simp] theorem State.raise_annul (s : State) (t : Trap) : (s.raise t).annul = s.annul := rfl
@[simp] theorem State.raise_dec (s : State) (t : Trap) : (s.raise t).dec = s.dec := rfl
@[simp] theorem State.raise_pending (s : State) (t : Trap) : (s.raise t).pending = s.pending ||| pendingBit t := rfl
@[simp] theorem State.raise_status (s : State) (t : Trap) : (s.raise t).status = s.status := rfl
@[simp] theorem State.raise_bootEntry (s : State) (t : Trap) : (s.raise t).bootEntry = s.bootEntry := rfl
@[simp] theorem State.raise_stage (s : State) (t : Trap) : (s.raise t).stage = s.stage := rfl
@[simp] theorem State.raise_mem (s : State) (t : Trap) : (s.raise t).mem = s.mem := rfl

/-! ### `State.acknowledge` -/

@[simp] theorem State.acknowledge_cfg (s : State) (t : Trap) : (s.acknowledge t).cfg = s.cfg := rfl
@[simp] theorem State.acknowledge_globals (s : State) (t : Trap) : (s.acknowledge t).globals = s.globals := rfl
@[simp] theorem State.acknowledge_windows (s : State) (t : Trap) : (s.acknowledge t).windows = s.windows := rfl
@[simp] theorem State.acknowledge_pc (s : State) (t : Trap) : (s.acknowledge t).pc = s.pc := rfl
@[simp] theorem State.acknowledge_npc (s : State) (t : Trap) : (s.acknowledge t).npc = s.npc := rfl
@[simp] theorem State.acknowledge_npc2 (s : State) (t : Trap) : (s.acknowledge t).npc2 = s.npc2 := rfl
@[simp] theorem State.acknowledge_psr (s : State) (t : Trap) : (s.acknowledge t).psr = s.psr := rfl
@[simp] theorem State.acknowledge_wim (s : State) (t : Trap) : (s.acknowledge t).wim = s.wim := rfl
@[simp] theorem State.acknowledge_tbr (s : State) (t : Trap) : (s.acknowledge t).tbr = s.tbr := rfl
@[simp] theorem State.acknowledge_y (s : State) (t : Trap) : (s.acknowledge t).y = s.y := rfl
@[simp] theorem State.acknowledge_slot0 (s : State) (t : Trap) : (s.acknowledge t).slot0 = s.slot0 := rfl
@[simp] theorem State.acknowledge_slot1 (s : State) (t : Trap) : (s.acknowledge t).slot1 = s.slot1 := rfl
@[simp] theorem State.acknowledge_annul (s : State) (t : Trap) : (s.acknowledge t).annul = s.annul := rfl
@[simp] theorem State.acknowledge_dec (s : State) (t : Trap) : (s.acknowledge t).dec = s.dec := rfl
@[simp] theorem State.acknowledge_pending (s : State) (t : Trap) : (s.acknowledge t).pending = s.pending &&& ~~~pendingBit t := rfl
@[simp] theorem State.acknowledge_status (s : State) (t : Trap) : (s.acknowledge t).status = s.status := rfl
@[simp] theorem State.acknowledge_bootEntry (s : State) (t : Trap) : (s.acknowledge t).bootEntry = s.bootEntry := rfl
@[simp] theorem State.acknowledge_stage (s : State) (t : Trap) : (s.acknowledge t).stage = s.stage := rfl
@[simp] theorem State.acknowledge_mem (s : State) (t : Trap) : (s.acknowledge t).mem = s.mem := rfl

/-! ### `State.advance` -/

@[simp] theorem State.advance_cfg (s : State) : (s.advance).cfg = s.cfg := rfl
@[simp] theorem State.advance_globals (s : State) : (s.advance).globals = s.globals := rfl
@[simp] theorem State.advance_windows (s : State) : (s.advance).windows = s.windows := rfl
@[simp] theorem State.advance_pc (s : State) : (s.advance).pc = s.npc := rfl
@[simp] theorem State.advance_npc (s : State) : (s.advance).npc = s.npc2 := rfl
@[simp] theorem State.advance_npc2 (s : State) : (s.advance).npc2 = s.npc2 + 4 := rfl
@[simp] theorem State.advance_psr (s : State) : (s.advance).psr = s.psr := rfl
@[simp] theorem State.advance_wim (s : State) : (s.advance).wim = s.wim := rfl
@[simp] theorem State.advance_tbr (s : State) : (s.advance).tbr = s.tbr := rfl
@[simp] theorem State.advance_y (s : State) : (s.advance).y = s.y := rfl
@[simp] theorem State.advance_slot0 (s : State) : (s.advance).slot0 = s.slot1 := rfl
@[simp] theorem State.advance_slot1 (s : State) : (s.advance).slot1 = s.slot1 := rfl
@[simp] theorem State.advance_annul (s : State) : (s.advance).annul = s.annul := rfl
@[simp] theorem State.advance_dec (s : State) : (s.advance).dec = s.dec := rfl
@[simp] theorem State.advance_pending (s : State) : (s.advance).pending = s.pending := rfl
@[simp] theorem State.advance_status (s : State) : (s.advance).status = s.status := rfl
@[simp] theorem State.advance_bootEntry (s : State) : (s.advance).bootEntry = s.bootEntry := rfl
@[simp] theorem State.advance_stage (s : State) : (s.advance).stage = .boundary := rfl
@[simp] theorem State.advance_mem (s : State) : (s.advance).mem = s.mem := rfl

/-! ### `State.skipDelaySlot` -/

@[simp] theorem State.skipDelaySlot_cfg (s : State) (word : Word) : (s.skipDelaySlot word).cfg = s.cfg := rfl
@[simp] theorem State.skipDelaySlot_globals (s : State) (word : Word) : (s.skipDelaySlot word).globals = s.globals := rfl
@[simp] theorem State.skipDelaySlot_windows (s : State) (word : Word) : (s.skipDelaySlot word).windows = s.windows := rfl
@[simp] theorem State.skipDelaySlot_pc (s : State) (word : Word) : (s.skipDelaySlot word).pc = s.pc := rfl
@[simp] theorem State.skipDelaySlot_npc (s : State) (word : Word) : (s.skipDelaySlot word).npc = s.npc2 := rfl
@[simp] theorem State.skipDelaySlot_npc2 (s : State) (word : Word) : (s.skipDelaySlot word).npc2 = s.npc2 + 4 := rfl
@[simp] theorem State.skipDelaySlot_psr (s : State) (word : Word) : (s.skipDelaySlot word).psr = s.psr := rfl
@[simp] theorem State.skipDelaySlot_wim (s : State) (word : Word) : (s.skipDelaySlot word).wim = s.wim := rfl
@[simp] theorem State.skipDelaySlot_tbr (s : State) (word : Word) : (s.skipDelaySlot word).tbr = s.tbr := rfl
@[simp] theorem State.skipDelaySlot_y (s : State) (word : Word) : (s.skipDelaySlot word).y = s.y := rfl
@[simp] theorem State.skipDelaySlot_slot0 (s : State) (word : Word) : (s.skipDelaySlot word).slot0 = s.slot0 := rfl
@[simp] theorem State.skipDelaySlot_slot1 (s : State) (word : Word) : (s.skipDelaySlot word).slot1 = word := rfl
@[simp] theorem State.skipDelaySlot_annul (s : State) (word : Word) : (s.skipDelaySlot word).annul = false := rfl
@[simp] theorem State.skipDelaySlot_dec (s : State) (word : Word) : (s.skipDelaySlot word).dec = s.dec := rfl
@[simp] theorem State.skipDelaySlot_pending (s : State) (word : Word) : (s.skipDelaySlot word).pending = s.pending := rfl
@[simp] theorem State.skipDelaySlot_status (s : State) (word : Word) : (s.skipDelaySlot word).status = s.status := rfl
@[simp] theorem State.skipDelaySlot_bootEntry (s : State) (word : Word) : (s.skipDelaySlot word).bootEntry = s.bootEntry := rfl
@[simp] theorem State.skipDelaySlot_stage (s : State) (word : Word) : (s.skipDelaySlot word).stage = s.stage := rfl
@[simp] theorem State.skipDelaySlot_mem (s : State) (word : Word) : (s.skipDelaySlot word).mem = s.mem := rfl

/-! ### `State.errorMode` -/

@[simp] theorem State.errorMode_cfg (s : State) : (s.errorMode).cfg = s.cfg := rfl
@[simp] theorem State.errorMode_globals (s : State) : (s.errorMode).globals = s.globals := rfl
@[simp] theorem State.errorMode_windows (s : State) : (s.errorMode).windows = s.windows := rfl
@[simp] theorem State.errorMode_pc (s : State) : (s.errorMode).pc = s.pc := rfl
@[simp] theorem State.errorMode_npc (s : State) : (s.errorMode).npc = s.npc := rfl
@[simp] theorem State.errorMode_npc2 (s : State) : (s.errorMode).npc2 = s.npc2 := rfl
@[simp] theorem State.errorMode_psr (s : State) : (s.errorMode).psr = s.psr := rfl
@[simp] theorem State.errorMode_wim (s : State) : (s.errorMode).wim = s.wim := rfl
@[simp] theorem State.errorMode_tbr (s : State) : (s.errorMode).tbr = s.tbr := rfl
@[simp] theorem State.errorMode_y (s : State) : (s.errorMode).y = s.y := rfl
@[simp] theorem State.errorMode_slot0 (s : State) : (s.errorMode).slot0 = s.slot0 := rfl
@[simp] theorem State.errorMode_slot1 (s : State) : (s.errorMode).slot1 = s.slot1 := rfl
@[simp] theorem State.errorMode_annul (s : State) : (s.errorMode).annul = s.annul := rfl
@[simp] theorem State.errorMode_dec (s : State) : (s.errorMode).dec = s.dec := rfl
@[simp] theorem State.errorMode_pending (s : State) : (s.errorMode).pending = s.pending := rfl
@[simp] theorem State.errorMode_status (s : State) : (s.errorMode).status = .error := rfl
@[simp] theorem State.errorMode_bootEntry (s : State) : (s.errorMode).bootEntry = s.bootEntry := rfl
@[simp] theorem State.errorMode_stage (s : State) : (s.errorMode).stage = .boundary := rfl
@[simp] theorem State.errorMode_mem (s : State) : (s.errorMode).mem = s.mem := rfl

/-! ### `State.returnFromTrap` -/

@[simp] theorem State.returnFromTrap_cfg (s : State) (w : BitVec 5) (t : Word) : (s.returnFromTrap w t).cfg = s.cfg := rfl
@[simp] theorem State.returnFromTrap_globals (s : State) (w : BitVec 5) (t : Word) : (s.returnFromTrap w t).globals = s.globals := rfl
@[simp] theorem State.returnFromTrap_windows (s : State) (w : BitVec 5) (t : Word) : (s.returnFromTrap w t).windows = s.windows := rfl
@[simp] theorem State.returnFromTrap_pc (s : State) (w : BitVec 5) (t : Word) : (s.returnFromTrap w t).pc = s.pc := rfl
@[simp] theorem State.returnFromTrap_npc (s : State) (w : BitVec 5) (t : Word) : (s.returnFromTrap w t).npc = s.npc := rfl
@[simp] theorem State.returnFromTrap_npc2 (s : State) (w : BitVec 5) (t : Word) : (s.returnFromTrap w t).npc2 = t := rfl
@[simp] theorem State.returnFromTrap_psr (s : State) (w : BitVec 5) (t : Word) : (s.returnFromTrap w t).psr = { s.psr with cwp := w, s := s.psr.ps, et := true } := rfl
@[simp] theorem State.returnFromTrap_wim (s : State) (w : BitVec 5) (t : Word) : (s.returnFromTrap w t).wim = s.wim := rfl
@[simp] theorem State.returnFromTrap_tbr (s : State) (w : BitVec 5) (t : Word) : (s.returnFromTrap w t).tbr = s.tbr := rfl
@[simp] theorem State.returnFromTrap_y (s : State) (w : BitVec 5) (t : Word) : (s.returnFromTrap w t).y = s.y := rfl
@[simp] theorem State.returnFromTrap_slot0 (s : State) (w : BitVec 5) (t : Word) : (s.returnFromTrap w t).slot0 = s.slot0 := rfl
@[simp] theorem State.returnFromTrap_slot1 (s : State) (w : BitVec 5) (t : Word) : (s.returnFromTrap w t).slot1 = s.slot1 := rfl
@[simp] theorem State.returnFromTrap_annul (s : State) (w : BitVec 5) (t : Word) : (s.returnFromTrap w t).annul = s.annul := rfl
@[simp] theorem State.returnFromTrap_dec (s : State) (w : BitVec 5) (t : Word) : (s.returnFromTrap w t).dec = s.dec := rfl
@[simp] theorem State.returnFromTrap_pending (s : State) (w : BitVec 5) (t : Word) : (s.returnFromTrap w t).pending = s.pending := rfl
@[simp] theorem State.returnFromTrap_status (s : State) (w : BitVec 5) (t : Word) : (s.returnFromTrap w t).status = s.status := rfl
@[simp] theorem State.returnFromTrap_bootEntry (s : State) (w : BitVec 5) (t : Word) : (s.returnFromTrap w t).bootEntry = s.bootEntry := rfl
@[simp] theorem State.returnFromTrap_stage (s : State) (w : BitVec 5) (t : Word) : (s.returnFromTrap w t).stage = s.stage := rfl
@[simp] theorem State.returnFromTrap_mem (s : State) (w : BitVec 5) (t : Word) : (s.returnFromTrap w t).mem = s.mem := rfl

/-! ### `State.booted` -/

@[simp] theorem State.booted_cfg (s : State) (e w : Word) : (s.booted e w).cfg = s.cfg := rfl
@[simp] theorem State.booted_globals (s : State) (e w : Word) : (s.booted e w).globals = s.globals := rfl
@[simp] theorem State.booted_windows (s : State) (e w : Word) : (s.booted e w).windows = s.windows := rfl
@[simp] theorem State.booted_pc (s : State) (e w : Word) : (s.booted e w).pc = e := rfl
@[simp] theorem State.booted_npc (s : State) (e w : Word) : (s.booted e w).npc = e + 4 := rfl
@[simp] theorem State.booted_npc2 (s : State) (e w : Word) : (s.booted e w).npc2 = e + 8 := rfl
@[simp] theorem State.booted_psr (s : State) (e w : Word) : (s.booted e w).psr = { s.psr with s := true } := rfl
@[simp] theorem State.booted_wim (s : State) (e w : Word) : (s.booted e w).wim = s.wim := rfl
@[simp] theorem State.booted_tbr (s : State) (e w : Word) : (s.booted e w).tbr = s.tbr := rfl
@[simp] theorem State.booted_y (s : State) (e w : Word) : (s.booted e w).y = s.y := rfl
@[simp] theorem State.booted_slot0 (s : State) (e w : Word) : (s.booted e w).slot0 = w := rfl
@[simp] theorem State.booted_slot1 (s : State) (e w : Word) : (s.booted e w).slot1 = s.slot1 := rfl
@[simp] theorem State.booted_annul (s : State) (e w : Word) : (s.booted e w).annul = false := rfl
@[simp] theorem State.booted_dec (s : State) (e w : Word) : (s.booted e w).dec = s.dec := rfl
@[simp] theorem State.booted_pending (s : State) (e w : Word) : (s.booted e w).pending = 0 := rfl
@[simp] theorem State.booted_status (s : State) (e w : Word) : (s.booted e w).status = .normal := rfl
@[simp] theorem State.booted_bootEntry (s : State) (e w : Word) : (s.booted e w).bootEntry = e := rfl
@[simp] theorem State.booted_stage (s : State) (e w : Word) : (s.booted e w).stage = .boundary := rfl
@[simp] theorem State.booted_mem (s : State) (e w : Word) : (s.booted e w).mem = s.mem := rfl

/-! ### `State.writeCell` and `State.setReg`: everything but the register arrays -/

@[simp] theorem State.writeCell_cfg (s : State) (v : Word) (c : RegCell) : (s.writeCell v c).cfg = s.cfg := by cases c <;> rfl
@[simp] theorem State.setReg_cfg (s : State) (i : Reg) (v : Word) : (s.setReg i v).cfg = s.cfg := s.writeCell_cfg v _
@[simp] theorem State.writeCell_pc (s : State) (v : Word) (c : RegCell) : (s.writeCell v c).pc = s.pc := by cases c <;> rfl
@[simp] theorem State.setReg_pc (s : State) (i : Reg) (v : Word) : (s.setReg i v).pc = s.pc := s.writeCell_pc v _
@[simp] theorem State.writeCell_npc (s : State) (v : Word) (c : RegCell) : (s.writeCell v c).npc = s.npc := by cases c <;> rfl
@[simp] theorem State.setReg_npc (s : State) (i : Reg) (v : Word) : (s.setReg i v).npc = s.npc := s.writeCell_npc v _
@[simp] theorem State.writeCell_npc2 (s : State) (v : Word) (c : RegCell) : (s.writeCell v c).npc2 = s.npc2 := by cases c <;> rfl
@[simp] theorem State.setReg_npc2 (s : State) (i : Reg) (v : Word) : (s.setReg i v).npc2 = s.npc2 := s.writeCell_npc2 v _
@[simp] theorem State.writeCell_psr (s : State) (v : Word) (c : RegCell) : (s.writeCell v c).psr = s.psr := by cases c <;> rfl
@[simp] theorem State.setReg_psr (s : State) (i : Reg) (v : Word) : (s.setReg i v).psr = s.psr := s.writeCell_psr v _
@[simp] theorem State.writeCell_wim (s : State) (v : Word) (c : RegCell) : (s.writeCell v c).wim = s.wim := by cases c <;> rfl
@[simp] theorem State.setReg_wim (s : State) (i : Reg) (v : Word) : (s.setReg i v).wim = s.wim := s.writeCell_wim v _
@[simp] theorem State.writeCell_tbr (s : State) (v : Word) (c : RegCell) : (s.writeCell v c).tbr = s.tbr := by cases c <;> rfl
@[simp] theorem State.setReg_tbr (s : State) (i : Reg) (v : Word) : (s.setReg i v).tbr = s.tbr := s.writeCell_tbr v _
@[simp] theorem State.writeCell_y (s : State) (v : Word) (c : RegCell) : (s.writeCell v c).y = s.y := by cases c <;> rfl
@[simp] theorem State.setReg_y (s : State) (i : Reg) (v : Word) : (s.setReg i v).y = s.y := s.writeCell_y v _
@[simp] theorem State.writeCell_slot0 (s : State) (v : Word) (c : RegCell) : (s.writeCell v c).slot0 = s.slot0 := by cases c <;> rfl
@[simp] theorem State.setReg_slot0 (s : State) (i : Reg) (v : Word) : (s.setReg i v).slot0 = s.slot0 := s.writeCell_slot0 v _
@[simp] theorem State.writeCell_slot1 (s : State) (v : Word) (c : RegCell) : (s.writeCell v c).slot1 = s.slot1 := by cases c <;> rfl
@[simp] theorem State.setReg_slot1 (s : State) (i : Reg) (v : Word) : (s.setReg i v).slot1 = s.slot1 := s.writeCell_slot1 v _
@[simp] theorem State.writeCell_annul (s : State) (v : Word) (c : RegCell) : (s.writeCell v c).annul = s.annul := by cases c <;> rfl
@[simp] theorem State.setReg_annul (s : State) (i : Reg) (v : Word) : (s.setReg i v).annul = s.annul := s.writeCell_annul v _
@[simp] theorem State.writeCell_dec (s : State) (v : Word) (c : RegCell) : (s.writeCell v c).dec = s.dec := by cases c <;> rfl
@[simp] theorem State.setReg_dec (s : State) (i : Reg) (v : Word) : (s.setReg i v).dec = s.dec := s.writeCell_dec v _
@[simp] theorem State.writeCell_pending (s : State) (v : Word) (c : RegCell) : (s.writeCell v c).pending = s.pending := by cases c <;> rfl
@[simp] theorem State.setReg_pending (s : State) (i : Reg) (v : Word) : (s.setReg i v).pending = s.pending := s.writeCell_pending v _
@[simp] theorem State.writeCell_status (s : State) (v : Word) (c : RegCell) : (s.writeCell v c).status = s.status := by cases c <;> rfl
@[simp] theorem State.setReg_status (s : State) (i : Reg) (v : Word) : (s.setReg i v).status = s.status := s.writeCell_status v _
@[simp] theorem State.writeCell_bootEntry (s : State) (v : Word) (c : RegCell) : (s.writeCell v c).bootEntry = s.bootEntry := by cases c <;> rfl
@[simp] theorem State.setReg_bootEntry (s : State) (i : Reg) (v : Word) : (s.setReg i v).bootEntry = s.bootEntry := s.writeCell_bootEntry v _
@[simp] theorem State.writeCell_stage (s : State) (v : Word) (c : RegCell) : (s.writeCell v c).stage = s.stage := by cases c <;> rfl
@[simp] theorem State.setReg_stage (s : State) (i : Reg) (v : Word) : (s.setReg i v).stage = s.stage := s.writeCell_stage v _
@[simp] theorem State.writeCell_mem (s : State) (v : Word) (c : RegCell) : (s.writeCell v c).mem = s.mem := by cases c <;> rfl
@[simp] theorem State.setReg_mem (s : State) (i : Reg) (v : Word) : (s.setReg i v).mem = s.mem := s.writeCell_mem v _
@[simp] theorem State.writeCell_globals_length (s : State) (v : Word) (c : RegCell) : (s.writeCell v c).globals.length = s.globals.length := by
  cases c <;> simp [State.writeCell]
@[simp] theorem State.setReg_globals_length (s : State) (i : Reg) (v : Word) : (s.setReg i v).globals.length = s.globals.length :=
  s.writeCell_globals_length v _
@[simp] theorem State.writeCell_windows_length (s : State) (v : Word) (c : RegCell) : (s.writeCell v c).windows.length = s.windows.length := by
  cases c <;> simp [State.writeCell]
@[simp] theorem State.setReg_windows_length (s : State) (i : Reg) (v : Word) : (s.setReg i v).windows.length = s.windows.length :=
  s.writeCell_windows_length v _

/-! ### Stores: everything but the memory -/

@[simp] theorem State.putByte_cfg (s : State) (a : Word) (b : Byte) : (s.putByte a b).cfg = s.cfg := rfl
@[simp] theorem State.putByte_globals (s : State) (a : Word) (b : Byte) : (s.putByte a b).globals = s.globals := rfl
@[simp] theorem State.putByte_windows (s : State) (a : Word) (b : Byte) : (s.putByte a b).windows = s.windows := rfl
@[simp] theorem State.putByte_pc (s : State) (a : Word) (b : Byte) : (s.putByte a b).pc = s.pc := rfl
@[simp] theorem State.putByte_npc (s : State) (a : Word) (b : Byte) : (s.putByte a b).npc = s.npc := rfl
@[simp] theorem State.putByte_npc2 (s : State) (a : Word) (b : Byte) : (s.putByte a b).npc2 = s.npc2 := rfl
@[simp] theorem State.putByte_psr (s : State) (a : Word) (b : Byte) : (s.putByte a b).psr = s.psr := rfl
@[simp] theorem State.putByte_wim (s : State) (a : Word) (b : Byte) : (s.putByte a b).wim = s.wim := rfl
@[simp] theorem State.putByte_tbr (s : State) (a : Word) (b : Byte) : (s.putByte a b).tbr = s.tbr := rfl
@[simp] theorem State.putByte_y (s : State) (a : Word) (b : Byte) : (s.putByte a b).y = s.y := rfl
@[simp] theorem State.putByte_slot0 (s : State) (a : Word) (b : Byte) : (s.putByte a b).slot0 = s.slot0 := rfl
@[simp] theorem State.putByte_slot1 (s : State) (a : Word) (b : Byte) : (s.putByte a b).slot1 = s.slot1 := rfl
@[simp] theorem State.putByte_annul (s : State) (a : Word) (b : Byte) : (s.putByte a b).annul = s.annul := rfl
@[simp] theorem State.putByte_dec (s : State) (a : Word) (b : Byte) : (s.putByte a b).dec = s.dec := rfl
@[simp] theorem State.putByte_pending (s : State) (a : Word) (b : Byte) : (s.putByte a b).pending = s.pending := rfl
@[simp] theorem State.putByte_status (s : State) (a : Word) (b : Byte) : (s.putByte a b).status = s.status := rfl
@[simp] theorem State.putByte_bootEntry (s : State) (a : Word) (b : Byte) : (s.putByte a b).bootEntry = s.bootEntry := rfl
@[simp] theorem State.putByte_stage (s : State) (a : Word) (b : Byte) : (s.putByte a b).stage = s.stage := rfl
@[simp] theorem State.putHalf_cfg (s : State) (a : Word) (b : BitVec 16) : (s.putHalf a b).cfg = s.cfg := by
  simp only [State.putHalf, State.putByte_cfg]
@[simp] theorem State.putHalf_globals (s : State) (a : Word) (b : BitVec 16) : (s.putHalf a b).globals = s.globals := by
  simp only [State.putHalf, State.putByte_globals]
@[simp] theorem State.putHalf_windows (s : State) (a : Word) (b : BitVec 16) : (s.putHalf a b).windows = s.windows := by
  simp only [State.putHalf, State.putByte_windows]
@[simp] theorem State.putHalf_pc (s : State) (a : Word) (b : BitVec 16) : (s.putHalf a b).pc = s.pc := by
  simp only [State.putHalf, State.putByte_pc]
@[simp] theorem State.putHalf_npc (s : State) (a : Word) (b : BitVec 16) : (s.putHalf a b).npc = s.npc := by
  simp only [State.putHalf, State.putByte_npc]
@[simp] theorem State.putHalf_npc2 (s : State) (a : Word) (b : BitVec 16) : (s.putHalf a b).npc2 = s.npc2 := by
  simp only [State.putHalf, State.putByte_npc2]
@[simp] theorem State.putHalf_psr (s : State) (a : Word) (b : BitVec 16) : (s.putHalf a b).psr = s.psr := by
  simp only [State.putHalf, State.putByte_psr]
@[simp] theorem State.putHalf_wim (s : State) (a : Word) (b : BitVec 16) : (s.putHalf a b).wim = s.wim := by
  simp only [State.putHalf, State.putByte_wim]
@[simp] theorem State.putHalf_tbr (s : State) (a : Word) (b : BitVec 16) : (s.putHalf a b).tbr = s.tbr := by
  simp only [State.putHalf, State.putByte_tbr]
@[simp] theorem State.putHalf_y (s : State) (a : Word) (b : BitVec 16) : (s.putHalf a b).y = s.y := by
  simp only [State.putHalf, State.putByte_y]
@[simp] theorem State.putHalf_slot0 (s : State) (a : Word) (b : BitVec 16) : (s.putHalf a b).slot0 = s.slot0 := by
  simp only [State.putHalf, State.putByte_slot0]
@[simp] theorem State.putHalf_slot1 (s : State) (a : Word) (b : BitVec 16) : (s.putHalf a b).slot1 = s.slot1 := by
  simp only [State.putHalf, State.putByte_slot1]
@[simp] theorem State.putHalf_annul (s : State) (a : Word) (b : BitVec 16) : (s.putHalf a b).annul = s.annul := by
  simp only [State.putHalf, State.putByte_annul]
@[simp] theorem State.putHalf_dec (s : State) (a : Word) (b : BitVec 16) : (s.putHalf a b).dec = s.dec := by
  simp only [State.putHalf, State.putByte_dec]
@[simp] theorem State.putHalf_pending (s : State) (a : Word) (b : BitVec 16) : (s.putHalf a b).pending = s.pending := by
  simp only [State.putHalf, State.putByte_pending]
@[simp] theorem State.putHalf_status (s : State) (a : Word) (b : BitVec 16) : (s.putHalf a b).status = s.status := by
  simp only [State.putHalf, State.putByte_status]
@[simp] theorem State.putHalf_bootEntry (s : State) (a : Word) (b : BitVec 16) : (s.putHalf a b).bootEntry = s.bootEntry := by
  simp only [State.putHalf, State.putByte_bootEntry]
@[simp] theorem State.putHalf_stage (s : State) (a : Word) (b : BitVec 16) : (s.putHalf a b).stage = s.stage := by
  simp only [State.putHalf, State.putByte_stage]
@[simp] theorem State.putWord_cfg (s : State) (a : Word) (b : Word) : (s.putWord a b).cfg = s.cfg := by
  simp only [State.putWord, State.putByte_cfg]
@[simp] theorem State.putWord_globals (s : State) (a : Word) (b : Word) : (s.putWord a b).globals = s.globals := by
  simp only [State.putWord, State.putByte_globals]
@[simp] theorem State.putWord_windows (s : State) (a : Word) (b : Word) : (s.putWord a b).windows = s.windows := by
  simp only [State.putWord, State.putByte_windows]
@[simp] theorem State.putWord_pc (s : State) (a : Word) (b : Word) : (s.putWord a b).pc = s.pc := by
  simp only [State.putWord, State.putByte_pc]
@[simp] theorem State.putWord_npc (s : State) (a : Word) (b : Word) : (s.putWord a b).npc = s.npc := by
  simp only [State.putWord, State.putByte_npc]
@[simp] theorem State.putWord_npc2 (s : State) (a : Word) (b : Word) : (s.putWord a b).npc2 = s.npc2 := by
  simp only [State.putWord, State.putByte_npc2]
@[simp] theorem State.putWord_psr (s : State) (a : Word) (b : Word) : (s.putWord a b).psr = s.psr := by
  simp only [State.putWord, State.putByte_psr]
@[simp] theorem State.putWord_wim (s : State) (a : Word) (b : Word) : (s.putWord a b).wim = s.wim := by
  simp only [State.putWord, State.putByte_wim]
@[simp] theorem State.putWord_tbr (s : State) (a : Word) (b : Word) : (s.putWord a b).tbr = s.tbr := by
  simp only [State.putWord, State.putByte_tbr]
@[simp] theorem State.putWord_y (s : State) (a : Word) (b : Word) : (s.putWord a b).y = s.y := by
  simp only [State.putWord, State.putByte_y]
@[simp] theorem State.putWord_slot0 (s : State) (a : Word) (b : Word) : (s.putWord a b).slot0 = s.slot0 := by
  simp only [State.putWord, State.putByte_slot0]
@[simp] theorem State.putWord_slot1 (s : State) (a : Word) (b : Word) : (s.putWord a b).slot1 = s.slot1 := by
  simp only [State.putWord, State.putByte_slot1]
@[simp] theorem State.putWord_annul (s : State) (a : Word) (b : Word) : (s.putWord a b).annul = s.annul := by
  simp only [State.putWord, State.putByte_annul]
@[simp] theorem State.putWord_dec (s : State) (a : Word) (b : Word) : (s.putWord a b).dec = s.dec := by
  simp only [State.putWord, State.putByte_dec]
@[simp] theorem State.putWord_pending (s : State) (a : Word) (b : Word) : (s.putWord a b).pending = s.pending := by
  simp only [State.putWord, State.putByte_pending]
@[simp] theorem State.putWord_status (s : State) (a : Word) (b : Word) : (s.putWord a b).status = s.status := by
  simp only [State.putWord, State.putByte_status]
@[simp] theorem State.putWord_bootEntry (s : State) (a : Word) (b : Word) : (s.putWord a b).bootEntry = s.bootEntry := by
  simp only [State.putWord, State.putByte_bootEntry]
@[simp] theorem State.putWord_stage (s : State) (a : Word) (b : Word) : (s.putWord a b).stage = s.stage := by
  simp only [State.putWord, State.putByte_stage]

/-! ### Trap entry: everything but the register arrays -/

@[simp] theorem State.enterTrap_cfg (s : State) (t : Trap) (word : Word) : (s.enterTrap t word).cfg = s.cfg := by
  simp [State.enterTrap]
@[simp] theorem State.enterTrap_pc (s : State) (t : Trap) (word : Word) : (s.enterTrap t word).pc = trapVector s.tbr.tba t := by
  simp [State.enterTrap]
@[simp] theorem State.enterTrap_npc (s : State) (t : Trap) (word : Word) : (s.enterTrap t word).npc = trapVector s.tbr.tba t + 4 := by
  simp [State.enterTrap]
@[simp] theorem State.enterTrap_npc2 (s : State) (t : Trap) (word : Word) : (s.enterTrap t word).npc2 = trapVector s.tbr.tba t + 8 := by
  simp [State.enterTrap]
@[simp] theorem State.enterTrap_psr (s : State) (t : Trap) (word : Word) : (s.enterTrap t word).psr = trapPsr s.cfg.nwin s.psr := by
  simp [State.enterTrap]
@[simp] theorem State.enterTrap_wim (s : State) (t : Trap) (word : Word) : (s.enterTrap t word).wim = s.wim := by
  simp [State.enterTrap]
@[simp] theorem State.enterTrap_tbr (s : State) (t : Trap) (word : Word) : (s.enterTrap t word).tbr = { s.tbr with tt := Trap.tt t } := by
  simp [State.enterTrap]
@[simp] theorem State.enterTrap_y (s : State) (t : Trap) (word : Word) : (s.enterTrap t word).y = s.y := by
  simp [State.enterTrap]
@[simp] theorem State.enterTrap_slot0 (s : State) (t : Trap) (word : Word) : (s.enterTrap t word).slot0 = word := by
  simp [State.enterTrap]
@[simp] theorem State.enterTrap_slot1 (s : State) (t : Trap) (word : Word) : (s.enterTrap t word).slot1 = s.slot1 := by
  simp [State.enterTrap]
@[simp] theorem State.enterTrap_annul (s : State) (t : Trap) (word : Word) : (s.enterTrap t word).annul = s.annul := by
  simp [State.enterTrap]
@[simp] theorem State.enterTrap_dec (s : State) (t : Trap) (word : Word) : (s.enterTrap t word).dec = s.dec := by
  simp [State.enterTrap]
@[simp] theorem State.enterTrap_pending (s : State) (t : Trap) (word : Word) : (s.enterTrap t word).pending = s.pending &&& ~~~pendingBit t := by
  simp [State.enterTrap]
@[simp] theorem State.enterTrap_status (s : State) (t : Trap) (word : Word) : (s.enterTrap t word).status = s.status := by
  simp [State.enterTrap]
@[simp] theorem State.enterTrap_bootEntry (s : State) (t : Trap) (word : Word) : (s.enterTrap t word).bootEntry = s.bootEntry := by
  simp [State.enterTrap]
@[simp] theorem State.enterTrap_stage (s : State) (t : Trap) (word : Word) : (s.enterTrap t word).stage = .boundary := by
  simp [State.enterTrap]
@[simp] theorem State.enterTrap_mem (s : State) (t : Trap) (word : Word) : (s.enterTrap t word).mem = s.mem := by
  simp [State.enterTrap]
@[simp] theorem State.enterTrap_globals_length (s : State) (t : Trap) (word : Word) : (s.enterTrap t word).globals.length = s.globals.length := by
  simp [State.enterTrap]
@[simp] theorem State.enterTrap_windows_length (s : State) (t : Trap) (word : Word) : (s.enterTrap t word).windows.length = s.windows.length := by
  simp [State.enterTrap]

end Sys2Proof.Machine
end

