-- ==== Sys2Proof/Laws/Memory.lean ====
section
/-! SUPPORT. The laws of the memory list: a write keeps the canonical form, a read after a write gives the value written, and every other address is as before. -/

namespace Sys2Proof.Machine

theorem wfFrom_mono {lo lo' : Nat} (h : lo' ≤ lo) : ∀ {m : Memory}, wfFrom lo m = true → wfFrom lo' m = true
  | [], _ => rfl
  | (k, v) :: rest, hm => by
    simp only [wfFrom, Bool.and_eq_true, decide_eq_true_eq] at hm ⊢
    exact ⟨⟨⟨le_trans h hm.1.1.1, hm.1.1.2⟩, hm.1.2⟩, hm.2⟩

/-- Below the first listed address everything reads as 0. -/
theorem readByte_below {a : Nat} : ∀ {lo : Nat} {m : Memory}, wfFrom lo m = true → a < lo → readByte m a = 0
  | _, [], _, _ => rfl
  | lo, (k, v) :: rest, hm, ha => by
    simp only [wfFrom, Bool.and_eq_true, decide_eq_true_eq] at hm
    have hne : a ≠ k := by omega
    simp only [readByte, if_neg hne]
    exact readByte_below hm.2 (by omega)

theorem wfFrom_writeByte {a : Nat} {b : Byte} (ha : a < 2 ^ 32) :
    ∀ {lo : Nat} {m : Memory}, wfFrom lo m = true → lo ≤ a → wfFrom lo (writeByte m a b) = true
  | lo, [], _, hlo => by
    by_cases hb : b = 0#8 <;> simp [writeByte, wfFrom, hb, hlo]
    exact ha
  | lo, (k, v) :: rest, hm, hlo => by
    have hm' := hm
    simp only [wfFrom, Bool.and_eq_true, decide_eq_true_eq] at hm'
    obtain ⟨⟨⟨hk, hk'⟩, hv⟩, hrest⟩ := hm'
    simp only [writeByte]
    by_cases hlt : a < k
    · by_cases hb : b = 0
      · simp [hlt, hb, hm]
      · have : wfFrom (a + 1) ((k, v) :: rest) = true := by
          simp only [wfFrom, Bool.and_eq_true, decide_eq_true_eq]
          exact ⟨⟨⟨by omega, hk'⟩, hv⟩, hrest⟩
        simp only [hlt, if_true, hb, if_false]
        simp only [wfFrom, Bool.and_eq_true, decide_eq_true_eq] at this ⊢
        exact ⟨⟨⟨hlo, ha⟩, by simpa using hb⟩, this⟩
    · by_cases heq : a = k
      · subst heq
        by_cases hb : b = 0
        · simp only [lt_irrefl, if_false, if_true, hb]
          exact wfFrom_mono (by omega) hrest
        · simp only [lt_irrefl, if_false, if_true, hb, wfFrom, Bool.and_eq_true, decide_eq_true_eq]
          exact ⟨⟨⟨hlo, ha⟩, by simpa using hb⟩, hrest⟩
      · simp only [hlt, if_false, heq, wfFrom, Bool.and_eq_true, decide_eq_true_eq]
        exact ⟨⟨⟨hk, hk'⟩, hv⟩, wfFrom_writeByte ha hrest (by omega)⟩

theorem readByte_writeByte_ne {a a' : Nat} {b : Byte} (h : a' ≠ a) : ∀ (m : Memory), readByte (writeByte m a b) a' = readByte m a'
  | [] => by by_cases hb : b = 0#8 <;> simp [writeByte, readByte, hb, h]
  | (k, v) :: rest => by
    have ih := readByte_writeByte_ne (b := b) h rest
    simp only [writeByte]
    split_ifs with h1 h2 h3 h4
    · rfl
    · simp [readByte, h]
    · subst h3; simp [readByte, h]
    · subst h3; simp [readByte, h]
    · simp [readByte, ih]

theorem readByte_writeByte_self {a : Nat} {b : Byte} : ∀ {lo : Nat} {m : Memory}, wfFrom lo m = true → readByte (writeByte m a b) a = b
  | _, [], _ => by by_cases hb : b = 0#8 <;> simp [writeByte, readByte, hb]
  | lo, (k, v) :: rest, hm => by
    have hm' := hm
    simp only [wfFrom, Bool.and_eq_true, decide_eq_true_eq] at hm'
    have ih := readByte_writeByte_self (a := a) (b := b) hm'.2
    simp only [writeByte]
    split_ifs with h1 h2 h3 h4
    · have : a ≠ k := by omega
      simp only [readByte, if_neg this]
      rw [readByte_below hm'.2 (by omega), h2]
    · simp [readByte]
    · rw [readByte_below hm'.2 (by omega), h4]
    · simp [readByte]
    · simp [readByte, h3, ih]

/-! ### The same laws on the state -/

theorem State.byteAt_putByte_ne (s : State) {a a' : Word} (b : Byte) (h : a' ≠ a) : (s.putByte a b).byteAt a' = s.byteAt a' :=
  readByte_writeByte_ne (fun he => h (BitVec.eq_of_toNat_eq he)) _

theorem State.byteAt_putByte_self (s : State) (a : Word) (b : Byte) (hm : Memory.wf s.mem = true) : (s.putByte a b).byteAt a = b :=
  readByte_writeByte_self hm

theorem State.byteAt_putByte (s : State) (a a' : Word) (b : Byte) (hm : Memory.wf s.mem = true) :
    (s.putByte a b).byteAt a' = if a' = a then b else s.byteAt a' := by
  split_ifs with h
  · rw [h, s.byteAt_putByte_self a b hm]
  · exact s.byteAt_putByte_ne b h

theorem State.wf_putByte (s : State) (a : Word) (b : Byte) (hm : Memory.wf s.mem = true) : Memory.wf (s.putByte a b).mem = true :=
  wfFrom_writeByte a.isLt hm (Nat.zero_le _)

theorem State.wf_putHalf (s : State) (a : Word) (v : BitVec 16) (hm : Memory.wf s.mem = true) : Memory.wf (s.putHalf a v).mem = true :=
  State.wf_putByte _ _ _ (State.wf_putByte _ _ _ hm)

theorem State.wf_putWord (s : State) (a v : Word) (hm : Memory.wf s.mem = true) : Memory.wf (s.putWord a v).mem = true :=
  State.wf_putByte _ _ _ (State.wf_putByte _ _ _ (State.wf_putByte _ _ _ (State.wf_putByte _ _ _ hm)))

/-- Two words at different distances from one address differ. -/
theorem add_ofNat_ne (a : Word) {i j : Nat} (hi : i < 2 ^ 32) (hj : j < 2 ^ 32) (h : i ≠ j) : a + BitVec.ofNat 32 i ≠ a + BitVec.ofNat 32 j := by
  intro he
  have := congrArg BitVec.toNat he
  simp only [BitVec.toNat_add, BitVec.toNat_ofNat] at this
  omega

/-- The bytes a halfword store leaves. -/
theorem State.byteAt_putHalf (s : State) (a a' : Word) (v : BitVec 16) (hm : Memory.wf s.mem = true) :
    (s.putHalf a v).byteAt a' =
      if a' = a + 1 then v.extractLsb' 0 8 else if a' = a then v.extractLsb' 8 8 else s.byteAt a' := by
  simp only [State.putHalf]
  rw [State.byteAt_putByte _ _ _ _ (State.wf_putByte _ _ _ hm), State.byteAt_putByte _ _ _ _ hm]

/-- The bytes a word store leaves. -/
theorem State.byteAt_putWord (s : State) (a a' v : Word) (hm : Memory.wf s.mem = true) :
    (s.putWord a v).byteAt a' =
      if a' = a + 3 then v.extractLsb' 0 8 else if a' = a + 2 then v.extractLsb' 8 8
      else if a' = a + 1 then v.extractLsb' 16 8 else if a' = a then v.extractLsb' 24 8 else s.byteAt a' := by
  have h1 := State.wf_putByte s a (v.extractLsb' 24 8) hm
  have h2 := State.wf_putByte _ (a + 1) (v.extractLsb' 16 8) h1
  have h3 := State.wf_putByte _ (a + 2) (v.extractLsb' 8 8) h2
  simp only [State.putWord]
  rw [State.byteAt_putByte _ _ _ _ h3, State.byteAt_putByte _ _ _ _ h2, State.byteAt_putByte _ _ _ _ h1,
    State.byteAt_putByte _ _ _ _ hm]

end Sys2Proof.Machine
end

