-- ==== Sys2Proof/Laws/Registers.lean ====
section
/-! SUPPORT. The laws of the register file: what one write changes, which indices share a cell, and that the file keeps its size. -/

namespace Sys2Proof.Machine

/-- What `State.sized` says. -/
theorem State.sized_iff (s : State) : s.sized = true ↔
    (2 ≤ s.cfg.nwin ∧ s.cfg.nwin ≤ 32) ∧ s.globals.length = 7 ∧ s.windows.length = 16 * s.cfg.nwin ∧ s.psr.cwp.toNat < s.cfg.nwin := by
  simp [State.sized, Config.valid, and_assoc]

/-- A write leaves every other cell. -/
theorem State.readCell_writeCell_ne (s : State) (v : Word) {c c' : RegCell} (h : c' ≠ c) : (s.writeCell v c).readCell c' = s.readCell c' := by
  cases c <;> cases c' <;> simp_all [State.writeCell, State.readCell, List.getD_eq_getElem?_getD, List.getElem?_set] <;>
    (split_ifs with h1 <;> simp_all)

/-- The storage a cell names exists. -/
def State.hasCell (s : State) : RegCell → Prop
  | .zero => True
  | .global k => k < s.globals.length
  | .window k => k < s.windows.length

theorem State.readCell_writeCell_self (s : State) (v : Word) {c : RegCell} (h : s.hasCell c) :
    (s.writeCell v c).readCell c = if c = .zero then 0 else v := by
  cases c <;> simp_all [State.writeCell, State.readCell, State.hasCell, List.getD_eq_getElem?_getD]

theorem regCell_zero (nwin : Nat) (cwp : BitVec 5) : regCell nwin cwp 0 = .zero := rfl

theorem regCell_eq_zero_iff (nwin : Nat) (cwp : BitVec 5) (i : Reg) : regCell nwin cwp i = .zero ↔ i = 0 := by
  unfold regCell
  split_ifs with h1 h2 <;> simpa using h1

theorem State.hasCell_regCell (s : State) (hs : s.sized = true) (cwp : BitVec 5) (i : Reg) : s.hasCell (regCell s.cfg.nwin cwp i) := by
  obtain ⟨⟨h2, _⟩, hg, hw, _⟩ := (s.sized_iff).1 hs
  unfold regCell
  split_ifs with h1 h3
  · trivial
  · simp only [State.hasCell, hg]
    omega
  · simp only [State.hasCell, hw, physSlot]
    exact Nat.mod_lt _ (by omega)

/-- A register read after its write. -/
theorem State.reg_setReg_self (s : State) (hs : s.sized = true) (i : Reg) (v : Word) : (s.setReg i v).reg i = if i = 0 then 0 else v := by
  have h := s.readCell_writeCell_self v (s.hasCell_regCell hs s.psr.cwp i)
  have hc : (s.setReg i v).cellOf i = s.cellOf i := by simp [State.cellOf]
  simp only [State.reg, hc]
  simpa [State.setReg, State.cellOf, regCell_eq_zero_iff] using h

/-- In one window, different indices name different cells (R23). -/
theorem regCell_injective {nwin : Nat} (h2 : 2 ≤ nwin) {cwp : BitVec 5} {i j : Reg} (h : regCell nwin cwp i = regCell nwin cwp j) : i = j := by
  unfold regCell at h
  split_ifs at h with h1 h3 h4 h5 h6 h7 h8
  all_goals try (subst_vars; rfl)
  · have := RegCell.global.inj h
    apply BitVec.eq_of_toNat_eq
    have hi : i.toNat ≠ 0 := fun he => h1 (BitVec.eq_of_toNat_eq he)
    have hj : j.toNat ≠ 0 := fun he => h6 (BitVec.eq_of_toNat_eq he)
    omega
  · have := RegCell.window.inj h
    simp only [physSlot] at this
    have hi := i.isLt
    have hj := j.isLt
    apply BitVec.eq_of_toNat_eq
    have e1 : 16 * cwp.toNat + i.toNat - 8 = 16 * cwp.toNat + (i.toNat - 8) := by omega
    have e2 : 16 * cwp.toNat + j.toNat - 8 = 16 * cwp.toNat + (j.toNat - 8) := by omega
    rw [e1, e2] at this
    have hmod := Nat.ModEq.add_left_cancel' (16 * cwp.toNat) (show _ ≡ _ [MOD 16 * nwin] from this)
    have hl : 24 < 16 * nwin := by omega
    have := Nat.ModEq.eq_of_lt_of_lt hmod (by omega) (by omega)
    omega

/-- A register write leaves every other register of the window. -/
theorem State.reg_setReg_ne (s : State) (hs : s.sized = true) {i j : Reg} (v : Word) (h : j ≠ i) : (s.setReg i v).reg j = s.reg j := by
  have hc : (s.setReg i v).cellOf j = s.cellOf j := by simp [State.cellOf]
  simp only [State.reg, hc]
  exact s.readCell_writeCell_ne v fun he => h (regCell_injective ((s.sized_iff).1 hs).1.1 he)

/-- Reading cells through an update that leaves both register arrays. -/
theorem State.readCell_congr {s t : State} (hg : t.globals = s.globals) (hw : t.windows = s.windows) (c : RegCell) : t.readCell c = s.readCell c := by
  cases c <;> simp [State.readCell, hg, hw]

/-- The file keeps its size under every update that keeps the lengths, the parameters and CWP. -/
theorem State.sized_congr {s t : State} (hc : t.cfg = s.cfg) (hg : t.globals.length = s.globals.length)
    (hw : t.windows.length = s.windows.length) (hp : t.psr.cwp = s.psr.cwp) : t.sized = s.sized := by
  simp [State.sized, hc, hg, hw, hp]

@[simp] theorem State.sized_setReg (s : State) (i : Reg) (v : Word) : (s.setReg i v).sized = s.sized := by
  apply State.sized_congr <;> simp

theorem prevWindow_lt {nwin : Nat} (h : 2 ≤ nwin) (h' : nwin ≤ 32) (cwp : BitVec 5) : (prevWindow nwin cwp).toNat < nwin := by
  have := Nat.mod_lt (cwp.toNat + nwin - 1) (show 0 < nwin by omega)
  simp only [prevWindow, BitVec.toNat_ofNat]
  omega

theorem nextWindow_lt {nwin : Nat} (h : 2 ≤ nwin) (h' : nwin ≤ 32) (cwp : BitVec 5) : (nextWindow nwin cwp).toNat < nwin := by
  have := Nat.mod_lt (cwp.toNat + 1) (show 0 < nwin by omega)
  simp only [nextWindow, BitVec.toNat_ofNat]
  omega

theorem prevWindow_toNat {nwin : Nat} (h : 2 ≤ nwin) (h' : nwin ≤ 32) (cwp : BitVec 5) :
    (prevWindow nwin cwp).toNat = (cwp.toNat + nwin - 1) % nwin := by
  have := Nat.mod_lt (cwp.toNat + nwin - 1) (show 0 < nwin by omega)
  simp only [prevWindow, BitVec.toNat_ofNat]
  omega

theorem nextWindow_toNat {nwin : Nat} (h : 2 ≤ nwin) (h' : nwin ≤ 32) (cwp : BitVec 5) :
    (nextWindow nwin cwp).toNat = (cwp.toNat + 1) % nwin := by
  have := Nat.mod_lt (cwp.toNat + 1) (show 0 < nwin by omega)
  simp only [nextWindow, BitVec.toNat_ofNat]
  omega

end Sys2Proof.Machine
end

