-- ==== Sys2Proof/Laws/Ops.lean ====
section
/-! SUPPORT. One lemma for each shared operation of the controller, saying everything it can do: the arbitration, the completion of a step, raising, trap entry and the port. -/

namespace Sys2Proof.Machine

/-! ### The arbitration's choice -/

/-- Eligibility reads the parameters, PSR.ET and PSR.PIL only. -/
theorem State.eligible_congr {s t : State} (hc : t.cfg = s.cfg) (he : t.psr.et = s.psr.et) (hl : t.psr.pil = s.psr.pil) (u : Trap) :
    t.eligible u = s.eligible u := by
  cases u <;> simp [State.eligible, hc, he, hl]

/-- The choice reads the parameters, the pending set, PSR.ET and PSR.PIL only. -/
theorem State.selectTrap_congr {s t : State} (hc : t.cfg = s.cfg) (hp : t.pending = s.pending) (he : t.psr.et = s.psr.et)
    (hl : t.psr.pil = s.psr.pil) : t.selectTrap = s.selectTrap := by
  unfold State.selectTrap
  congr 1
  funext u
  rw [State.eligible_congr hc he hl, hc]
  simp [State.isPending, hp]

theorem State.quiet_iff (s : State) : s.quiet = true ↔ s.annul = false ∧ s.selectTrap = none := by
  simp [State.quiet]

theorem State.quiet_congr {s t : State} (ha : t.annul = s.annul) (hc : t.cfg = s.cfg) (hp : t.pending = s.pending)
    (he : t.psr.et = s.psr.et) (hl : t.psr.pil = s.psr.pil) : t.quiet = s.quiet := by
  simp [State.quiet, State.selectTrap_congr hc hp he hl, ha]

/-- What the arbitration selects is accepted, pending and eligible. -/
theorem State.selectTrap_some {s : State} {t : Trap} (h : s.selectTrap = some t) :
    Trap.accepted s.cfg t = true ∧ s.isPending t = true ∧ s.eligible t = true ∧ t ∈ scanOrder := by
  have h1 := List.find?_some h
  simp only [Bool.and_eq_true] at h1
  exact ⟨h1.1.1, h1.1.2, h1.2, List.mem_of_find?_eq_some h⟩

/-! ### Completing a step -/

theorem State.arbitrate_none {s : State} (h : s.selectTrap = none) : s.arbitrate = .next s.advance := by
  simp [State.arbitrate, h]

/-- A quiet state advances. -/
theorem State.complete_quiet {s : State} (h : s.quiet = true) : s.complete = .next s.advance := by
  obtain ⟨ha, hs⟩ := s.quiet_iff.1 h
  simp [State.complete, ha, State.arbitrate_none hs]

theorem thenPort_next {α : Type} {p : Port α} {k : α → Result} {t : State} (h : thenPort p k = .next t) :
    ∃ v, p = .ok v ∧ k v = .next t := by
  cases p with
  | error f => simp [thenPort] at h
  | ok v => exact ⟨v, rfl, h⟩

theorem State.access_ok {s : State} {kind : Access} {a : Word} {n : Nat} {α : Type} {v w : α} (h : s.access kind a n v = .ok w) :
    w = v ∧ s.portFaults kind a n = false := by
  unfold State.access at h
  split_ifs at h with hf
  exact ⟨(Except.ok.inj h).symm, by simpa using hf⟩

theorem State.access_of_not {s : State} {kind : Access} {a : Word} {n : Nat} {α : Type} (v : α) (h : s.portFaults kind a n = false) :
    s.access kind a n v = .ok v := by
  simp [State.access, h]

/-- An access the port answers with a Fault ends the step, whatever would follow (20_memory.md R68). -/
theorem State.thenPort_access_fault {s : State} {kind : Access} {a : Word} {n : Nat} {α : Type} (v : α) (k : α → Result)
    (h : s.portFaults kind a n = true) : thenPort (s.access kind a n v) k = .fault (.hardFault kind a n) := by
  simp [State.access, h, thenPort]

/-- Whether the port faults depends on the parameters only. -/
theorem State.portFaults_congr {s t : State} (hc : t.cfg = s.cfg) (kind : Access) (a : Word) (n : Nat) :
    t.portFaults kind a n = s.portFaults kind a n := by
  simp [State.portFaults, hc]

/-- Everything the arbitration can lead to, when it answers a next state (50_pipeline_controller.md R404, R405). -/
theorem State.arbitrate_next {s u : State} (h : s.arbitrate = .next u) :
    (s.selectTrap = none ∧ u = s.advance) ∨
    (s.selectTrap = some .reset ∧ u = s.booted s.bootEntry (s.wordAt s.bootEntry)) ∨
    (∃ t, s.selectTrap = some t ∧ t ≠ .reset ∧ (Trap.isInterrupt t = true ∨ s.psr.et = true) ∧
      u = s.enterTrap t (s.wordAt (trapVector s.tbr.tba t))) ∨
    (∃ t, s.selectTrap = some t ∧ t ≠ .reset ∧ Trap.isInterrupt t = false ∧ s.psr.et = false ∧ u = s.errorMode) := by
  unfold State.arbitrate at h
  split at h
  · rename_i hs
    exact .inl ⟨hs, (Host.Outcome.next.inj h).symm⟩
  · rename_i hs
    obtain ⟨w, hw, hk⟩ := thenPort_next h
    obtain ⟨rfl, -⟩ := State.access_ok hw
    exact .inr (.inl ⟨hs, (Host.Outcome.next.inj hk).symm⟩)
  · rename_i t hne hs
    have hr : t ≠ .reset := fun he => hne (by rw [he])
    split_ifs at h with hc
    · obtain ⟨w, hw, hk⟩ := thenPort_next h
      obtain ⟨rfl, -⟩ := State.access_ok hw
      exact .inr (.inr (.inl ⟨t, hs, hr, by simpa using hc, (Host.Outcome.next.inj hk).symm⟩))
    · simp only [Bool.or_eq_true, not_or, Bool.not_eq_true] at hc
      exact .inr (.inr (.inr ⟨t, hs, hr, hc.1, hc.2, (Host.Outcome.next.inj h).symm⟩))

/-- The state the arbitration starts from: the annul fix-up done if it was due (50_pipeline_controller.md R403). -/
def State.fixedUp (s : State) : State := if s.annul then s.skipDelaySlot (s.wordAt s.npc2) else s

theorem State.complete_next {s u : State} (h : s.complete = .next u) : s.fixedUp.arbitrate = .next u := by
  unfold State.complete at h
  unfold State.fixedUp
  split_ifs at h ⊢
  · obtain ⟨w, hw, hk⟩ := thenPort_next h
    obtain ⟨rfl, -⟩ := State.access_ok hw
    exact hk
  · exact h

/-- Where the re-fetch of a due fix-up is answered, completing a step is the arbitration after the fix-up. -/
theorem State.complete_fixedUp {s : State} (h : s.annul = false ∨ s.portFaults .fetch s.npc2 4 = false) : s.complete = s.fixedUp.arbitrate := by
  unfold State.complete State.fixedUp
  split_ifs with ha
  · have hf := h.resolve_left (by simp [ha])
    simp only [State.fetch32, State.access_of_not _ hf, thenPort]
  · rfl

/-- Everything the fix-up leaves alone, at once. -/
theorem State.fixedUp_frame (s : State) : s.fixedUp.cfg = s.cfg ∧ s.fixedUp.globals = s.globals ∧ s.fixedUp.windows = s.windows ∧
    s.fixedUp.pc = s.pc ∧ s.fixedUp.psr = s.psr ∧ s.fixedUp.wim = s.wim ∧ s.fixedUp.tbr = s.tbr ∧ s.fixedUp.y = s.y ∧
    s.fixedUp.pending = s.pending ∧ s.fixedUp.status = s.status ∧ s.fixedUp.bootEntry = s.bootEntry ∧ s.fixedUp.mem = s.mem ∧
    s.fixedUp.annul = false := by
  unfold State.fixedUp
  split_ifs with h <;> simp [h]

/-! ### Raising -/

theorem State.selects_iff (s : State) (t : Trap) : s.selects t = true ↔ s.annul = false ∧ (s.raise t).selectTrap = some t := by
  simp [State.selects]

theorem State.canEnter_iff (s : State) (t : Trap) : s.canEnter t = true ↔
    s.sized = true ∧ s.annul = false ∧ (s.raise t).selectTrap = some t ∧ s.psr.et = true ∧
      s.portFaults .fetch (trapVector s.tbr.tba t) 4 = false := by
  simp [State.canEnter, State.selects_iff, and_assoc]

/-- Raising a trap that can be entered enters it. -/
theorem State.complete_raise_enter {s : State} {t : Trap} (hr : t ≠ .reset) (h : s.canEnter t = true) :
    (s.raise t).complete = .next ((s.raise t).enterTrap t (s.wordAt (trapVector s.tbr.tba t))) := by
  obtain ⟨-, ha, hsel, het, hf⟩ := (s.canEnter_iff t).1 h
  have hf' : (s.raise t).portFaults .fetch (trapVector s.tbr.tba t) 4 = false := by
    rw [State.portFaults_congr (s := s) (State.raise_cfg s t)]; exact hf
  have hw : (s.raise t).wordAt (trapVector s.tbr.tba t) = s.wordAt (trapVector s.tbr.tba t) := rfl
  have hk : (s.raise t).takeTrap t = .next ((s.raise t).enterTrap t (s.wordAt (trapVector s.tbr.tba t))) := by
    simp only [State.takeTrap, State.fetch32, State.raise_tbr, State.access_of_not _ hf', thenPort, hw]
  unfold State.complete State.arbitrate
  simp only [State.raise_annul, ha, hsel, State.raise_psr, het, Bool.or_true, if_true, Bool.false_eq_true, if_false]
  exact hk

/-- Raising with traps disabled a trap that is selected is error mode (60_exceptions.md R470). -/
theorem State.complete_raise_error {s : State} {t : Trap} (hr : t ≠ .reset) (hi : Trap.isInterrupt t = false)
    (h : s.selects t = true) (het : s.psr.et = false) : (s.raise t).complete = .next (s.raise t).errorMode := by
  obtain ⟨ha, hsel⟩ := (s.selects_iff t).1 h
  unfold State.complete State.arbitrate
  simp only [State.raise_annul, ha, hsel, State.raise_psr, het, hi, Bool.or_false, Bool.false_eq_true, if_false]

/-! ### Trap entry -/

theorem Trap.tt_toNat_lt (t : Trap) : (Trap.tt t).toNat < 256 := (Trap.tt t).isLt

theorem pendingBit_getLsbD (t : Trap) (k : Nat) : (pendingBit t).getLsbD k = decide (k = (Trap.tt t).toNat) := by
  have h := (Trap.tt t).isLt
  simp only [pendingBit, BitVec.getLsbD_twoPow]
  by_cases hk : k = (Trap.tt t).toNat
  · subst hk; simp [h]
  · have : ¬(Trap.tt t).toNat = k := fun he => hk he.symm
    simp [hk, this]

/-- The two registers trap entry writes, and every other cell (60_exceptions.md R466). -/
theorem State.enterTrap_registers (s : State) (hs : s.sized = true) (t : Trap) (word : Word) :
    (s.enterTrap t word).reg 17 = s.pc ∧ (s.enterTrap t word).reg 18 = s.npc ∧
    ∀ c, c ≠ (s.enterTrap t word).cellOf 17 → c ≠ (s.enterTrap t word).cellOf 18 →
      (s.enterTrap t word).readCell c = s.readCell c := by
  have hz := (s.sized_iff).1 hs
  let s1 := s.setPsr (trapPsr s.cfg.nwin s.psr)
  have hs1 : s1.sized = true := by
    rw [State.sized_iff]
    exact ⟨hz.1, hz.2.1, hz.2.2.1, prevWindow_lt hz.1.1 hz.1.2 _⟩
  have hs2 : (s1.setReg 17 s.pc).sized = true := by rw [State.sized_setReg]; exact hs1
  have key : ∀ c, (s.enterTrap t word).readCell c = ((s1.setReg 17 s.pc).setReg 18 s.npc).readCell c :=
    fun c => State.readCell_congr rfl rfl c
  have kc : ∀ i, (s.enterTrap t word).cellOf i = s1.cellOf i := fun i => by
    simp [State.cellOf, State.enterTrap_psr, State.enterTrap_cfg, s1]
  have kc2 : ∀ i, ((s1.setReg 17 s.pc).setReg 18 s.npc).cellOf i = s1.cellOf i := fun i => by simp [State.cellOf]
  have kr : ∀ i, (s.enterTrap t word).reg i = ((s1.setReg 17 s.pc).setReg 18 s.npc).reg i := fun i => by
    simp only [State.reg, key, kc, kc2]
  refine ⟨?_, ?_, ?_⟩
  · rw [kr, State.reg_setReg_ne _ hs2 _ (by decide), State.reg_setReg_self _ hs1]
    rfl
  · rw [kr, State.reg_setReg_self _ hs2]
    rfl
  · intro c h17 h18
    rw [kc] at h17 h18
    rw [key]
    have e18 : (s1.writeCell s.pc (s1.cellOf 17)).cellOf 18 = s1.cellOf 18 := by simp [State.cellOf]
    unfold State.setReg
    rw [State.readCell_writeCell_ne _ _ (by rw [e18]; exact h18), State.readCell_writeCell_ne _ _ h17]
    rfl

end Sys2Proof.Machine
end

