-- ==== Sys2Proof/Laws/Outcomes.lean ====
section
/-! SUPPORT. From the state an execute stage leaves to the outcome of the step, in the terms of Sys2Proof/Safety.lean: one lemma for each shape of instruction. -/

namespace Sys2Proof.Machine

/-! ### Operands -/

theorem aligned2_iff (a : Word) : aligned2 a = decide (a.toNat % 2 = 0) := by
  have h : (a.extractLsb' 0 1).toNat = a.toNat % 2 := by simp [BitVec.extractLsb'_toNat]
  simp only [aligned2, ← h, ← BitVec.toNat_inj, beq_eq_decide]
  rfl

theorem aligned4_iff (a : Word) : aligned4 a = decide (a.toNat % 4 = 0) := by
  have h : (a.extractLsb' 0 2).toNat = a.toNat % 4 := by simp [BitVec.extractLsb'_toNat]
  simp only [aligned4, ← h, ← BitVec.toNat_inj, beq_eq_decide]
  rfl

theorem aligned8_iff (a : Word) : aligned8 a = decide (a.toNat % 8 = 0) := by
  have h : (a.extractLsb' 0 3).toNat = a.toNat % 8 := by simp [BitVec.extractLsb'_toNat]
  simp only [aligned8, ← h, ← BitVec.toNat_inj, beq_eq_decide]
  rfl

theorem oddReg_iff (rd : Reg) : oddReg rd = decide (rd.toNat % 2 = 1) := by
  simp [oddReg, BitVec.getLsbD, Nat.testBit, beq_eq_decide]

/-! ### Effects -/

/-- `e` differs from `s` at most in registers, flags, CWP, Y, npc2 and memory: what the plain effects leave alone. -/
structure Keeps (s e : State) : Prop where
  pc : e.pc = s.pc
  npc : e.npc = s.npc
  slot1 : e.slot1 = s.slot1
  annul : e.annul = s.annul
  pending : e.pending = s.pending
  status : e.status = s.status
  bootEntry : e.bootEntry = s.bootEntry
  cfg : e.cfg = s.cfg
  dec : e.dec = s.dec
  et : e.psr.et = s.psr.et
  pil : e.psr.pil = s.psr.pil

theorem Keeps.quiet {s e : State} (h : Keeps s e) (hq : s.quiet = true) : e.quiet = true := by
  rw [State.quiet_congr h.annul h.cfg h.pending h.et h.pil]; exact hq

/-- A quiet state's step ends in the advance of the state the effect left. -/
theorem proceeds_of {s e : State} (h : Keeps s e) (hq : e.quiet = true) {target : Word} (ht : e.npc2 = target) :
    e.complete = .next e.advance ∧ Proceeds s e.advance target := by
  refine ⟨State.complete_quiet hq, ?_⟩
  have ha := ((e.quiet_iff).1 hq).1
  constructor <;> simp [h.npc, h.slot1, h.pending, h.status, h.bootEntry, h.cfg, h.dec, ht, ha]

theorem readCell_advance (e : State) (c : RegCell) : e.advance.readCell c = e.readCell c := by cases c <;> rfl

theorem reg_advance (e : State) (i : Reg) : e.advance.reg i = e.reg i := readCell_advance e _

theorem cellOf_advance (e : State) (i : Reg) : e.advance.cellOf i = e.cellOf i := rfl

theorem byteAt_advance (e : State) (a : Word) : e.advance.byteAt a = e.byteAt a := rfl

/-- A write to rd on a state whose register arrays are those of `s`. -/
theorem writes_setReg {s e : State} (hs : e.sized = true) (hg : e.globals = s.globals) (hw : e.windows = s.windows) (rd : Reg) (v : Word) :
    Writes s (e.setReg rd v) rd v := by
  refine ⟨State.reg_setReg_self e hs rd v, fun c hc => ?_⟩
  have hc' : c ≠ e.cellOf rd := by simpa [State.cellOf] using hc
  rw [State.setReg, State.readCell_writeCell_ne _ _ hc']
  exact State.readCell_congr hg hw c

theorem Writes.congr {s e e' : State} {rd : Reg} {v : Word} (h : Writes s e rd v) (hg : e'.globals = e.globals)
    (hw : e'.windows = e.windows) (hp : e'.psr.cwp = e.psr.cwp) (hc : e'.cfg = e.cfg) : Writes s e' rd v := by
  have hcell : e'.cellOf rd = e.cellOf rd := by simp [State.cellOf, hp, hc]
  refine ⟨?_, fun c hne => ?_⟩
  · rw [State.reg, hcell, State.readCell_congr hg hw]; exact h.value
  · rw [State.readCell_congr hg hw]
    exact h.others c (by rw [← hcell]; exact hne)

theorem Writes.advance {s e : State} {rd : Reg} {v : Word} (h : Writes s e rd v) : Writes s e.advance rd v :=
  h.congr rfl rfl rfl rfl

/-- The outcome of an instruction that writes a register, and perhaps flags and Y. -/
theorem givesReg_of {s e : State} {rd : Reg} {v : Word} {icc : Icc} {y : Word} (hk : Keeps s e) (hq : s.quiet = true)
    (hn : e.npc2 = s.npc2) (hw : Writes s e rd v) (hp : e.psr = { s.psr with icc := icc }) (hwim : e.wim = s.wim)
    (htbr : e.tbr = s.tbr) (hy : e.y = y) (hm : e.mem = s.mem) : GivesReg e.complete s rd v icc y := by
  obtain ⟨hc, hpr⟩ := proceeds_of hk (hk.quiet hq) hn
  refine ⟨e.advance, hc, hpr, hw.advance, fun a => ?_, ?_, ?_, ?_, ?_⟩
  · simp [State.byteAt, hm]
  · simpa using hp
  · simpa using hwim
  · simpa using htbr
  · simpa using hy

theorem keeps_setReg (s : State) (rd : Reg) (v : Word) : Keeps s (s.setReg rd v) := by constructor <;> simp

theorem givesReg_finish {s : State} (hs : s.sized = true) (hq : s.quiet = true) (rd : Reg) (v : Word) :
    GivesReg (s.finish rd v) s rd v s.psr.icc s.y := by
  apply givesReg_of (keeps_setReg s rd v) hq <;> first | exact writes_setReg hs rfl rfl rd v | simp

theorem givesReg_finishCc {s : State} (hs : s.sized = true) (hq : s.quiet = true) (rd : Reg) (v : Word) (f : Icc) :
    GivesReg (s.finishCc rd v f) s rd v f s.y := by
  apply givesReg_of (e := (s.setReg rd v).setIcc f) (by constructor <;> simp) hq <;>
    first | exact (writes_setReg hs rfl rfl rd v).congr rfl rfl rfl rfl | simp

theorem givesReg_setY {s : State} (hs : s.sized = true) (hq : s.quiet = true) (rd : Reg) (v y : Word) :
    GivesReg ((s.setReg rd v).setY y).complete s rd v s.psr.icc y := by
  apply givesReg_of (e := (s.setReg rd v).setY y) (by constructor <;> simp) hq <;>
    first | exact (writes_setReg hs rfl rfl rd v).congr rfl rfl rfl rfl | simp

theorem givesReg_setY_setIcc {s : State} (hs : s.sized = true) (hq : s.quiet = true) (rd : Reg) (v y : Word) (f : Icc) :
    GivesReg (((s.setReg rd v).setY y).setIcc f).complete s rd v f y := by
  apply givesReg_of (e := ((s.setReg rd v).setY y).setIcc f) (by constructor <;> simp) hq <;>
    first | exact (writes_setReg hs rfl rfl rd v).congr rfl rfl rfl rfl | simp

/-- The outcome of an instruction that writes no register and no memory. -/
theorem givesMove_of {s e : State} {target : Word} (hk : Keeps s e) (hq : s.quiet = true) (hn : e.npc2 = target)
    (hg : e.globals = s.globals) (hw : e.windows = s.windows) (hp : e.psr = s.psr) (hwim : e.wim = s.wim)
    (htbr : e.tbr = s.tbr) (hy : e.y = s.y) (hm : e.mem = s.mem) : GivesMove e.complete s target := by
  obtain ⟨hc, hpr⟩ := proceeds_of hk (hk.quiet hq) hn
  refine ⟨e.advance, hc, hpr, fun c => ?_, ⟨?_, ?_, ?_, ?_⟩, fun a => ?_⟩
  · rw [readCell_advance]; exact State.readCell_congr hg hw c
  · simpa using hp
  · simpa using hwim
  · simpa using htbr
  · simpa using hy
  · simp [State.byteAt, hm]

theorem givesMove_self {s : State} (hq : s.quiet = true) : GivesMove s.complete s s.npc2 :=
  givesMove_of ⟨rfl, rfl, rfl, rfl, rfl, rfl, rfl, rfl, rfl, rfl, rfl⟩ hq rfl rfl rfl rfl rfl rfl rfl rfl

/-! ### Traps -/

/-- A synchronous trap that can be entered is entered with no other effect (60_exceptions.md R466). -/
theorem entersTrap_enter {s : State} {t : Trap} (hs : s.sized = true) (ha : s.annul = false) (s' : State)
    (hs' : s' = s ∨ s' = s.raise t) : TrapEntered s (s'.enterTrap t (s.wordAt (trapVector s.tbr.tba t))) t := by
  have hsz : s'.sized = true := by rcases hs' with rfl | rfl <;> exact hs
  obtain ⟨h17, h18, ho⟩ := s'.enterTrap_registers hsz t (s.wordAt (trapVector s.tbr.tba t))
  have hz := (s.sized_iff).1 hs
  have hreg : ∀ c, s'.readCell c = s.readCell c := by
    rcases hs' with rfl | rfl
    · exact fun _ => rfl
    · exact fun c => State.readCell_congr rfl rfl c
  have hpc : s'.pc = s.pc ∧ s'.npc = s.npc ∧ s'.psr = s.psr ∧ s'.tbr = s.tbr ∧ s'.cfg = s.cfg ∧ s'.wim = s.wim ∧ s'.y = s.y ∧
      s'.mem = s.mem ∧ s'.annul = s.annul ∧ s'.status = s.status ∧ s'.bootEntry = s.bootEntry ∧ s'.slot1 = s.slot1 ∧ s'.dec = s.dec := by
    rcases hs' with rfl | rfl <;> simp
  obtain ⟨p1, p2, p3, p4, p5, p6, p7, p8, p9, p10, p11, p12, p13⟩ := hpc
  constructor
  · simp [trapPsr, p3]
  · simp [trapPsr]
  · simp [trapPsr]
  · simp only [State.enterTrap_psr, trapPsr, p3, p5]; exact prevWindow_toNat hz.1.1 hz.1.2 _
  · simp [trapPsr, p3]
  · simp [trapPsr, p3]
  · rw [h17, p1]
  · rw [h18, p2]
  · intro c hc1 hc2; rw [ho c hc1 hc2, hreg]
  · simp [p4]
  · simp
  · simp [p4, trapVector]
  · simp
  · simp
  · simp [p4]
  · simp [p12]
  · intro k
    simp only [State.enterTrap_pending, BitVec.getLsbD_and, BitVec.getLsbD_not, pendingBit_getLsbD]
    by_cases hk : k = (Trap.tt t).toNat
    · subst hk; simp
    · have hp : s'.pending.getLsbD k = s.pending.getLsbD k := by
        rcases hs' with rfl | rfl
        · rfl
        · simp [pendingBit_getLsbD, hk]
      rw [hp]
      by_cases hlt : k < 256
      · simp [hk, hlt]
      · have : s.pending.getLsbD k = false := BitVec.getLsbD_of_ge _ _ (by omega)
        simp [this]
  · simp [p6]
  · simp [p7]
  · intro a; simp [State.byteAt, p8]
  · simp [p9, ha]
  · simp [p10]
  · simp [p11]
  · simp [p5]
  · simp [p13]

/-- The arbitration enters the trap it selects, when the trap is an interrupt or traps are enabled (60_exceptions.md R466). -/
theorem entersTrap_arbitrate {e : State} {t : Trap} (hs : e.sized = true) (ha : e.annul = false) (hsel : e.selectTrap = some t) (hr : t ≠ .reset)
    (hc : Trap.isInterrupt t = true ∨ e.psr.et = true) (hf : e.portFaults .fetch (trapVector e.tbr.tba t) 4 = false) :
    EntersTrap e.arbitrate e t := by
  refine ⟨_, ?_, entersTrap_enter hs ha e (.inl rfl)⟩
  have hc' : (Trap.isInterrupt t || e.psr.et) = true := by simpa using hc
  unfold State.arbitrate
  rw [hsel]
  cases t <;> simp_all [State.takeTrap, State.fetch32, State.access_of_not, thenPort]

theorem entersTrap_of {s : State} {t : Trap} (hr : t ≠ .reset) (h : s.canEnter t = true) : EntersTrap (s.raise t).complete s t := by
  obtain ⟨hs, ha, -⟩ := (s.canEnter_iff t).1 h
  exact ⟨_, State.complete_raise_enter hr h, entersTrap_enter hs ha _ (.inr rfl)⟩

theorem entersError_of {s : State} {t : Trap} (ht : Trap.synchronous t = true) (h : s.selects t = true) (he : s.psr.et = false) :
    EntersError (s.raise t).complete s t := by
  have hr : t ≠ .reset := by rintro rfl; simp [Trap.synchronous] at ht
  have hi : Trap.isInterrupt t = false := by cases t <;> simp_all [Trap.synchronous, Trap.isInterrupt]
  rw [EntersError, State.complete_raise_error hr hi h he]
  rfl

end Sys2Proof.Machine
end

