-- ==== Sys2Proof/Laws/Effects.lean ====
section
/-! SUPPORT. Once for all instructions, everything an execute stage can do: fail at the port, raise one trap, or write the state its row may write; and so everything an instruction and a step can lead to. -/

namespace Sys2Proof.Machine

/-- What an effect may write. -/
structure Rights where
  icc : Bool
  y : Bool
  wim : Bool
  tba : Bool
  psr : Bool
  cwp : Bool
  mode : Bool
  mem : Bool
  regs : List Reg

/-- What the execute stage of an instruction may write. -/
def rightsOf (i : Instr) : Rights :=
  { icc := i.writesIcc, y := i.writesY, wim := i.writesWim, tba := i.writesTba, psr := i.writesPsr, cwp := i.writesCwp
    mode := match i with
      | .rett .. | .wrpsr .. => true
      | _ => false
    mem := i.writesMemory, regs := i.destinations }

/-- `e` is `s` after an execute stage with the rights `r`. -/
structure Effect (r : Rights) (s e : State) : Prop where
  pc : e.pc = s.pc
  npc : e.npc = s.npc
  slot1 : e.slot1 = s.slot1
  pending : e.pending = s.pending
  status : e.status = s.status
  bootEntry : e.bootEntry = s.bootEntry
  cfg : e.cfg = s.cfg
  tt : e.tbr.tt = s.tbr.tt
  icc : r.icc = false → e.psr.icc = s.psr.icc
  y : r.y = false → e.y = s.y
  wim : r.wim = false → e.wim = s.wim
  tba : r.tba = false → e.tbr.tba = s.tbr.tba
  pil : r.psr = false → e.psr.pil = s.psr.pil
  ps : r.psr = false → e.psr.ps = s.psr.ps
  cwp : r.cwp = false → e.psr.cwp = s.psr.cwp
  mode : r.mode = false → e.psr.s = s.psr.s ∧ e.psr.et = s.psr.et
  privilege : s.psr.s = false → e.psr.s = false ∧ r.wim = false ∧ r.tba = false ∧ r.psr = false ∧
    e.psr.et = s.psr.et ∧ e.psr.ps = s.psr.ps
  demotion : r.psr = false → e.psr.s = false → s.psr.s = true → s.psr.ps = false ∧ r.mode = true
  mem : r.mem = false → e.mem = s.mem
  globals : ∀ g : Reg, g.toNat < 8 → g ∉ r.regs → e.reg g = s.reg g
  sized : s.sized = true → e.sized = true
  wimBits : s.wim &&& ~~~wimMask s.cfg.nwin = 0 → e.wim &&& ~~~wimMask s.cfg.nwin = 0
  target : aligned4 s.pc = true → aligned4 s.npc2 = true → aligned4 e.npc2 = true
  wf : Memory.wf s.mem = true → Memory.wf e.mem = true

/-- `s` with the pending set `p`. -/
def State.withPending (s : State) (p : BitVec 256) : State := { s with pending := p }

@[simp] theorem State.withPending_self (s : State) : s.withPending s.pending = s := rfl

/-- What an execute stage with the rights `r` can lead to from `s`, and beside it from `s` with the pending set `p`: the same, since the execute stage does not look at the pending set (50_pipeline_controller.md R400, R404). -/
inductive Leads (r : Rights) (s : State) (p : BitVec 256) : Result → Result → Prop
  | fault (kind : Access) (a : Word) (n : Nat) : Leads r s p (.fault (.hardFault kind a n)) (.fault (.hardFault kind a n))
  | trap (t : Trap) : Trap.synchronous t = true → Trap.accepted s.cfg t = true → Leads r s p (s.trap t) ((s.withPending p).trap t)
  | done (e : State) : Effect r s e → Leads r s p e.complete (e.withPending p).complete

/-- `Leads.done` where the second state is not written with `withPending`. -/
theorem Leads.done_of {r : Rights} {s e e' : State} {p : BitVec 256} (h : Effect r s e) (he : e' = e.withPending p) :
    Leads r s p e.complete e'.complete := he ▸ .done e h

/-! ### The updates under another pending set -/

@[simp] theorem State.withPending_setReg (s : State) (p : BitVec 256) (rd : Reg) (v : Word) :
    (s.withPending p).setReg rd v = (s.setReg rd v).withPending p := by
  show State.writeCell _ v (s.cellOf rd) = (State.writeCell s v (s.cellOf rd)).withPending p
  cases s.cellOf rd <;> rfl

theorem State.withPending_branch (s : State) (p : BitVec 256) (c : Cond) (a : Bool) (d : BitVec 22) :
    (s.withPending p).branch c a d = (s.branch c a d).withPending p := by
  show (if condHolds c s.psr.icc then _ else _) = (if condHolds c s.psr.icc then _ else _ : State).withPending p
  split_ifs <;> rfl

theorem State.withPending_branchAlways (s : State) (p : BitVec 256) (a : Bool) (d : BitVec 22) :
    (s.withPending p).branchAlways a d = (s.branchAlways a d).withPending p := by
  show (match s.cfg.baAnnul with | .doc => _ | .v8 => _) = (match s.cfg.baAnnul with | .doc => _ | .v8 => _ : State).withPending p
  split
  · rfl
  · split_ifs <;> rfl

/-! ### The effects -/

/-- No write needs no right, but a privileged one shows that the mode allows it. -/
theorem Effect.refl {r : Rights} (s : State) (h : s.psr.s = true ∨ (r.wim = false ∧ r.tba = false ∧ r.psr = false)) : Effect r s s := by
  constructor <;> intros <;> simp_all

theorem Effect.congr {r : Rights} {s e e' : State} (h : Effect r s e) (hc : e'.cfg = e.cfg) (hg : e'.globals = e.globals)
    (hw : e'.windows = e.windows) (hp : e'.pc = e.pc) (hn : e'.npc = e.npc) (h1 : e'.slot1 = e.slot1) (hpd : e'.pending = e.pending)
    (hst : e'.status = e.status) (hb : e'.bootEntry = e.bootEntry) (htt : e'.tbr.tt = e.tbr.tt)
    (hicc : e'.psr.icc = e.psr.icc ∨ r.icc = true) (hy : e'.y = e.y ∨ r.y = true)
    (hwim : e'.wim = e.wim ∨ (r.wim = true ∧ e'.wim &&& ~~~wimMask e.cfg.nwin = 0)) (htba : e'.tbr.tba = e.tbr.tba ∨ r.tba = true)
    (hpil : e'.psr.pil = e.psr.pil) (hps : e'.psr.ps = e.psr.ps) (hs : e'.psr.s = e.psr.s) (het : e'.psr.et = e.psr.et)
    (hcwp : e'.psr.cwp = e.psr.cwp) (hmem : e'.mem = e.mem ∨ (r.mem = true ∧ (Memory.wf e.mem = true → Memory.wf e'.mem = true)))
    (ht : e'.npc2 = e.npc2 ∨ aligned4 e'.npc2 = true ∨ (aligned4 e.pc = true → aligned4 e'.npc2 = true)) : Effect r s e' where
  pc := hp.trans h.pc
  npc := hn.trans h.npc
  slot1 := h1.trans h.slot1
  pending := hpd.trans h.pending
  status := hst.trans h.status
  bootEntry := hb.trans h.bootEntry
  cfg := hc.trans h.cfg
  tt := htt.trans h.tt
  icc hr := by rcases hicc with hi | hi; exact hi.trans (h.icc hr); simp [hi] at hr
  y hr := by rcases hy with hi | hi; exact hi.trans (h.y hr); simp [hi] at hr
  wim hr := by rcases hwim with hi | hi; exact hi.trans (h.wim hr); simp [hi.1] at hr
  tba hr := by rcases htba with hi | hi; exact hi.trans (h.tba hr); simp [hi] at hr
  pil hr := hpil.trans (h.pil hr)
  ps hr := hps.trans (h.ps hr)
  cwp hr := hcwp.trans (h.cwp hr)
  mode hr := by rw [hs, het]; exact h.mode hr
  privilege hr := by rw [hs, het, hps]; exact h.privilege hr
  demotion hr he := h.demotion hr (hs ▸ he)
  mem hr := by rcases hmem with hi | hi; exact hi.trans (h.mem hr); simp [hi.1] at hr
  globals g hg' hn := by
    rw [← h.globals g hg' hn, State.reg, State.reg, State.cellOf, State.cellOf, hcwp, hc]
    exact State.readCell_congr hg hw _
  sized hz := by
    have he := (e.sized_iff).1 (h.sized hz)
    rw [State.sized_iff, hc, hg, hw, hcwp]; exact he
  wimBits hz := by
    rcases hwim with hi | hi
    · rw [hi]; exact h.wimBits hz
    · rw [← h.cfg]; exact hi.2
  target ha hb' := by
    rcases ht with hi | hi | hi
    · rw [hi]; exact h.target ha hb'
    · exact hi
    · exact hi (by rw [h.pc]; exact ha)
  wf hz := by
    rcases hmem with hi | hi
    · rw [hi]; exact h.wf hz
    · exact hi.2 (h.wf hz)

theorem regCell_global (nwin : Nat) (w w' : BitVec 5) {g : Reg} (hg : g.toNat < 8) : regCell nwin w g = regCell nwin w' g := by
  simp [regCell, hg]

theorem State.reg_setReg_global (s : State) {g rd : Reg} (v : Word) (hg : g.toNat < 8) (h : g ≠ rd) : (s.setReg rd v).reg g = s.reg g := by
  have hne : s.cellOf g ≠ s.cellOf rd := by
    simp only [State.cellOf, regCell]
    split_ifs <;> simp_all [← BitVec.toNat_inj]
    all_goals try omega
  rw [State.reg, State.setReg]
  have hc : (s.writeCell v (s.cellOf rd)).cellOf g = s.cellOf g := by simp [State.cellOf]
  rw [hc, State.readCell_writeCell_ne _ _ hne]
  rfl

theorem Effect.setReg {r : Rights} {s e : State} (h : Effect r s e) {rd : Reg} (hr : rd ∈ r.regs) (v : Word) : Effect r s (e.setReg rd v) where
  pc := by simpa using h.pc
  npc := by simpa using h.npc
  slot1 := by simpa using h.slot1
  pending := by simpa using h.pending
  status := by simpa using h.status
  bootEntry := by simpa using h.bootEntry
  cfg := by simpa using h.cfg
  tt := by simpa using h.tt
  icc := by simpa using h.icc
  y := by simpa using h.y
  wim := by simpa using h.wim
  tba := by simpa using h.tba
  pil := by simpa using h.pil
  ps := by simpa using h.ps
  cwp := by simpa using h.cwp
  mode := by simpa using h.mode
  privilege := by simpa using h.privilege
  demotion := by simpa using h.demotion
  mem := by simpa using h.mem
  globals g hg hn := by
    rw [State.reg_setReg_global e v hg (fun he => hn (he ▸ hr))]; exact h.globals g hg hn
  sized hz := by rw [State.sized_setReg]; exact h.sized hz
  wimBits := by simpa using h.wimBits
  target := by simpa using h.target
  wf := by simpa using h.wf

theorem Effect.setIcc {r : Rights} {s e : State} (h : Effect r s e) (hr : r.icc = true) (f : Icc) : Effect r s (e.setIcc f) := by
  apply h.congr <;> simp [hr]

theorem Effect.setY {r : Rights} {s e : State} (h : Effect r s e) (hr : r.y = true) (v : Word) : Effect r s (e.setY v) := by
  apply h.congr <;> simp [hr]

theorem Effect.setNpc2 {r : Rights} {s e : State} (h : Effect r s e) {t : Word}
    (ht : aligned4 t = true ∨ (aligned4 e.pc = true → aligned4 t = true)) : Effect r s (e.setNpc2 t) := by
  apply h.congr <;> simp [ht]

theorem Effect.setAnnul {r : Rights} {s e : State} (h : Effect r s e) : Effect r s e.setAnnul := by
  apply h.congr <;> simp

theorem Effect.setWim {r : Rights} {s e : State} (h : Effect r s e) (hr : r.wim = true) (v : Word) : Effect r s (e.setWim v) := by
  apply h.congr <;> simp [hr, BitVec.and_assoc]

theorem Effect.setTba {r : Rights} {s e : State} (h : Effect r s e) (hr : r.tba = true) (v : Word) : Effect r s (e.setTba v) := by
  apply h.congr <;> simp [hr]

theorem Effect.putByte {r : Rights} {s e : State} (h : Effect r s e) (hr : r.mem = true) (a : Word) (b : Byte) : Effect r s (e.putByte a b) := by
  apply h.congr <;> first | exact .inr ⟨hr, State.wf_putByte e a b⟩ | simp [State.putByte]

theorem Effect.putHalf {r : Rights} {s e : State} (h : Effect r s e) (hr : r.mem = true) (a : Word) (v : BitVec 16) : Effect r s (e.putHalf a v) :=
  (h.putByte hr _ _).putByte hr _ _

theorem Effect.putWord {r : Rights} {s e : State} (h : Effect r s e) (hr : r.mem = true) (a v : Word) : Effect r s (e.putWord a v) :=
  (((h.putByte hr _ _).putByte hr _ _).putByte hr _ _).putByte hr _ _

theorem Effect.setCwp {r : Rights} {s e : State} (h : Effect r s e) (hr : r.cwp = true) {w : BitVec 5}
    (hw : e.sized = true → w.toNat < e.cfg.nwin) : Effect r s (e.setCwp w) where
  pc := h.pc
  npc := h.npc
  slot1 := h.slot1
  pending := h.pending
  status := h.status
  bootEntry := h.bootEntry
  cfg := h.cfg
  tt := h.tt
  icc := h.icc
  y := h.y
  wim := h.wim
  tba := h.tba
  pil := h.pil
  ps := h.ps
  cwp hc := by simp [hr] at hc
  mode := h.mode
  privilege := h.privilege
  demotion := h.demotion
  mem := h.mem
  globals g hg hn := by
    rw [← h.globals g hg hn, State.reg, State.reg, State.cellOf, State.cellOf]
    simp only [State.setCwp_cfg, State.setCwp_psr]
    rw [regCell_global _ w e.psr.cwp hg]
    exact State.readCell_congr rfl rfl _
  sized hz := by
    have he := h.sized hz
    have hi := (e.sized_iff).1 he
    rw [State.sized_iff]
    exact ⟨hi.1, hi.2.1, hi.2.2.1, hw he⟩
  wimBits := h.wimBits
  target := h.target
  wf := h.wf

/-- RETT's and WRPSR's write of the mode. -/
theorem Effect.setMode {r : Rights} {s e : State} (h : Effect r s e) (hs : s.psr.s = true) (hm : r.mode = true) {p : Psr}
    (hc : p.cwp = e.psr.cwp) (hi : p.icc = e.psr.icc ∨ r.icc = true) (hp : (p.pil = e.psr.pil ∧ p.ps = e.psr.ps ∧ p.s = e.psr.ps) ∨ r.psr = true) :
    Effect r s (e.setPsr p) where
  pc := h.pc
  npc := h.npc
  slot1 := h.slot1
  pending := h.pending
  status := h.status
  bootEntry := h.bootEntry
  cfg := h.cfg
  tt := h.tt
  icc hr := by rcases hi with hi | hi; exact hi.trans (h.icc hr); simp [hi] at hr
  y := h.y
  wim := h.wim
  tba := h.tba
  pil hr := by rcases hp with hp | hp; exact hp.1.trans (h.pil hr); simp [hp] at hr
  ps hr := by rcases hp with hp | hp; exact hp.2.1.trans (h.ps hr); simp [hp] at hr
  cwp hr := hc.trans (h.cwp hr)
  mode hr := by simp [hm] at hr
  privilege hu := by simp [hs] at hu
  demotion hr he _ := by
    rcases hp with hp | hp
    · exact ⟨by rw [← h.ps hr, ← hp.2.2]; exact he, hm⟩
    · simp [hp] at hr
  mem := h.mem
  globals g hg hn := by
    rw [← h.globals g hg hn, State.reg, State.reg, State.cellOf, State.cellOf]
    simp only [State.setPsr_cfg, State.setPsr_psr, hc]
    exact State.readCell_congr rfl rfl _
  sized hz := by
    have hi := (e.sized_iff).1 (h.sized hz)
    rw [State.sized_iff]
    exact ⟨hi.1, hi.2.1, hi.2.2.1, by simpa [hc] using hi.2.2.2⟩
  wimBits := h.wimBits
  target := h.target
  wf := h.wf

/-! ### The shapes of instruction -/

theorem leads_access {r : Rights} {s u u' : State} {p : BitVec 256} {kind : Access} {a : Word} {n : Nat} {α : Type} {v v' : α}
    {k k' : α → Result} (h : Leads r s p (k v) (k' v')) (hu : u'.cfg = u.cfg := by rfl) :
    Leads r s p (thenPort (u.access kind a n v) k) (thenPort (u'.access kind a n v') k') := by
  unfold State.access
  rw [State.portFaults_congr hu]
  split_ifs
  · exact .fault kind a n
  · exact h

theorem leads_ite {r : Rights} {s : State} {p : BitVec 256} {c : Prop} [Decidable c] {k k' j j' : Result} (hk : c → Leads r s p k k')
    (hj : ¬c → Leads r s p j j') : Leads r s p (if c then k else j) (if c then k' else j') := by
  split_ifs with h
  · exact hk h
  · exact hj h

theorem leads_privileged {r : Rights} {s : State} {p : BitVec 256} {k k' : Result} (h : s.psr.s = true → Leads r s p k k') :
    Leads r s p (s.privileged k) ((s.withPending p).privileged k') := by
  show Leads r s p (if s.psr.s then k else _) (if s.psr.s then k' else _)
  split_ifs with hs
  · exact h hs
  · exact .trap _ rfl rfl

theorem leads_unlisted {r : Rights} {s : State} {p : BitVec 256} {k k' : Result} (h : s.cfg.implUnlisted = .v8 → Leads r s p k k') :
    Leads r s p (s.unlisted k) ((s.withPending p).unlisted k') := by
  unfold State.unlisted
  cases hv : s.cfg.implUnlisted with
  | illegal => simp only [State.withPending, hv]; exact .trap _ rfl rfl
  | v8 => simp only [State.withPending, hv]; exact h hv

theorem leads_aligned {r : Rights} {s : State} {p : BitVec 256} {ok : Bool} {k k' : Result} (h : ok = true → Leads r s p k k') :
    Leads r s p (s.requireAligned ok k) ((s.withPending p).requireAligned ok k') := by
  unfold State.requireAligned
  split_ifs with ho
  · exact h ho
  · exact .trap _ rfl rfl

theorem leads_even {r : Rights} {s : State} {p : BitVec 256} {rd : Reg} {k k' : Result} (h : Leads r s p k k') :
    Leads r s p (s.requireEven rd k) ((s.withPending p).requireEven rd k') := by
  unfold State.requireEven
  split_ifs
  · exact .trap _ rfl rfl
  · exact h

theorem leads_finish {r : Rights} {s e : State} {p : BitVec 256} (h : Effect r s e) {rd : Reg} (hr : rd ∈ r.regs) (v : Word) :
    Leads r s p (e.finish rd v) ((e.withPending p).finish rd v) :=
  .done_of (h.setReg hr v) (by simp)

theorem leads_finishCc {r : Rights} {s e : State} {p : BitVec 256} (h : Effect r s e) {rd : Reg} (hr : rd ∈ r.regs) (hi : r.icc = true)
    (v : Word) (f : Icc) : Leads r s p (e.finishCc rd v f) ((e.withPending p).finishCc rd v f) :=
  .done_of ((h.setReg hr v).setIcc hi f) (by simp; rfl)

theorem leads_divide {r : Rights} {s : State} {p : BitVec 256} {b : Word} {k k' : Result} (h : Leads r s p k k') :
    Leads r s p (if b = 0 then s.trap .divisionByZero else k) (if b = 0 then (s.withPending p).trap .divisionByZero else k') := by
  split_ifs
  · exact .trap _ rfl rfl
  · exact h

theorem aligned4_add_shift {pc : Word} (h : aligned4 pc = true) (d : Word) : aligned4 (pc + d <<< 2) = true := by
  rw [aligned4_iff, decide_eq_true_eq] at h ⊢
  rw [BitVec.toNat_add, BitVec.toNat_shiftLeft, Nat.shiftLeft_eq]
  omega

theorem aligned4_add_call {pc : Word} (h : aligned4 pc = true) (d : BitVec 30) : aligned4 (pc + callOffset d) = true := by
  have hd : callOffset d = (d.zeroExtend 32) <<< 2 := by
    rw [← BitVec.toNat_inj]
    simp only [callOffset, BitVec.toNat_append, BitVec.toNat_shiftLeft, BitVec.toNat_setWidth, Nat.shiftLeft_eq]
    have := d.isLt
    simp only [Nat.reducePow, BitVec.toNat_ofNat, Nat.zero_mod, Nat.or_zero]
    omega
  rw [hd]; exact aligned4_add_shift h _

theorem Effect.branch {r : Rights} {s : State} (h : Effect r s s) (c : Cond) (a : Bool) (d : BitVec 22) : Effect r s (s.branch c a d) := by
  unfold State.branch
  split_ifs
  · exact h.setNpc2 (.inr fun ha => aligned4_add_shift ha _)
  · exact h.setAnnul
  · exact h

theorem Effect.branchAlways {r : Rights} {s : State} (h : Effect r s s) (a : Bool) (d : BitVec 22) : Effect r s (s.branchAlways a d) := by
  have ht : Effect r s (s.setNpc2 (s.pc + branchOffset d)) := h.setNpc2 (.inr fun ha => aligned4_add_shift ha _)
  unfold State.branchAlways
  split
  · exact ht
  · split_ifs
    · exact ht.setAnnul
    · exact ht

/-- A Bicc. -/
theorem leads_branch {r : Rights} {s : State} {p : BitVec 256} (h : Effect r s s) (c : Cond) (a : Bool) (d : BitVec 22) :
    Leads r s p (s.branch c a d).complete ((s.withPending p).branch c a d).complete :=
  .done_of (h.branch c a d) (s.withPending_branch p c a d)

theorem leads_ticc {r : Rights} {s : State} {p : BitVec 256} (h : Effect r s s) (c : Cond) (rs1 : Reg) (src : Operand2) :
    Leads r s p (ticc c rs1 src s) (ticc c rs1 src (s.withPending p)) := by
  show Leads r s p (if condHolds c s.psr.icc then _ else _) (if condHolds c s.psr.icc then _ else _)
  split_ifs
  · exact .trap _ rfl rfl
  · exact .done s h

theorem leads_trapOnV {r : Rights} {s : State} {p : BitVec 256} (h : Effect r s s) (hv : s.cfg.implUnlisted = .v8) {rd : Reg} (hr : rd ∈ r.regs)
    (hi : r.icc = true) (f : Word → Word → Word) (icc : Word → Word → Word → Icc) (rs1 : Reg) (src : Operand2) :
    Leads r s p (trapOnV f icc rd rs1 src s) (trapOnV f icc rd rs1 src (s.withPending p)) := by
  have ha : (s.withPending p).reg rs1 = s.reg rs1 := rfl
  have hb : (s.withPending p).operand2 src = s.operand2 src := rfl
  unfold trapOnV
  simp only [ha, hb]
  split_ifs
  · exact .trap _ rfl (by simp [Trap.accepted, hv])
  · exact leads_finishCc h hr hi _ _

theorem leads_window {r : Rights} {s : State} {p : BitVec 256} (h : Effect r s s) (hc : r.cwp = true) {rd : Reg} (hr : rd ∈ r.regs) {t : Trap}
    (ht : Trap.synchronous t = true) (ha : Trap.accepted s.cfg t = true) {w : BitVec 5} (hw : s.sized = true → w.toNat < s.cfg.nwin) (v : Word) :
    Leads r s p (if s.windowInvalid w then s.trap t else (s.setCwp w).finish rd v)
      (if s.windowInvalid w then (s.withPending p).trap t else ((s.setCwp w).withPending p).finish rd v) := by
  split_ifs
  · exact .trap _ ht ha
  · exact leads_finish (h.setCwp hc hw) hr v

theorem State.prevWindow_lt_of_sized {s : State} (h : s.sized = true) : (prevWindow s.cfg.nwin s.psr.cwp).toNat < s.cfg.nwin :=
  have hz := (s.sized_iff).1 h
  prevWindow_lt hz.1.1 hz.1.2 _

theorem State.nextWindow_lt_of_sized {s : State} (h : s.sized = true) : (nextWindow s.cfg.nwin s.psr.cwp).toNat < s.cfg.nwin :=
  have hz := (s.sized_iff).1 h
  nextWindow_lt hz.1.1 hz.1.2 _

/-- The instructions whose rights leave the control registers alone may run in either mode. -/
theorem Effect.start {r : Rights} (s : State) (hw : r.wim = false) (ht : r.tba = false) (hp : r.psr = false) : Effect r s s :=
  .refl s (.inr ⟨hw, ht, hp⟩)

theorem leads_rett (rd rs1 : Reg) (src : Operand2) (s : State) (p : BitVec 256) :
    Leads (rightsOf (.rett rd rs1 src)) s p (execRett rd rs1 src s) (execRett rd rs1 src (s.withPending p)) := by
  refine leads_privileged fun hs => leads_ite (fun _ => .trap .illegalInstruction rfl rfl) fun _ =>
    leads_ite (fun _ => .trap .windowUnderflow rfl rfl) fun _ => leads_aligned fun ha => .done_of ?_ rfl
  exact (((Effect.refl s (.inl hs)).setCwp rfl State.nextWindow_lt_of_sized).setMode hs rfl
    (p := { s.psr with cwp := nextWindow s.cfg.nwin s.psr.cwp, s := s.psr.ps, et := true }) rfl (.inl rfl) (.inl ⟨rfl, rfl, rfl⟩)).setNpc2 (.inl ha)

theorem leads_wrpsr (rd rs1 : Reg) (src : Operand2) (s : State) (p : BitVec 256) :
    Leads (rightsOf (.wrpsr rd rs1 src)) s p (execWrpsr rd rs1 src s) (execWrpsr rd rs1 src (s.withPending p)) := by
  refine leads_privileged fun hs => leads_ite (fun _ => .trap .illegalInstruction rfl rfl) fun hn => .done_of ?_ rfl
  exact ((Effect.refl s (.inl hs)).setCwp rfl (fun _ => not_le.1 hn)).setMode hs rfl (p := psrOfWord (s.wrValue rs1 src)) rfl (.inr rfl) (.inr rfl)

theorem leads_stbar (low : BitVec 13) (s : State) (p : BitVec 256) :
    Leads (rightsOf (.stbar low)) s p (execStbar low s) (execStbar low (s.withPending p)) := by
  unfold execStbar
  cases hv : s.cfg.implUnlisted with
  | illegal => simp only [State.withPending, hv]; exact leads_privileged fun _ => .trap .illegalInstruction rfl rfl
  | v8 => simp only [State.withPending, hv]; exact .done s (Effect.start s rfl rfl rfl)

/-! ### Every instruction -/

/-- What the execute stage of each instruction can lead to, whatever is pending. -/
theorem exec_leads (i : Instr) (s : State) (p : BitVec 256) : Leads (rightsOf i) s p (exec i s) (exec i (s.withPending p)) :=
  match i with
  | .sethi _ _ => leads_finish (Effect.start s rfl rfl rfl) (List.mem_singleton.2 rfl) _
  | .bn a disp22 => leads_branch (Effect.start s rfl rfl rfl) _ a disp22
  | .be a disp22 => leads_branch (Effect.start s rfl rfl rfl) _ a disp22
  | .ble a disp22 => leads_branch (Effect.start s rfl rfl rfl) _ a disp22
  | .bl a disp22 => leads_branch (Effect.start s rfl rfl rfl) _ a disp22
  | .bleu a disp22 => leads_branch (Effect.start s rfl rfl rfl) _ a disp22
  | .bcs a disp22 => leads_branch (Effect.start s rfl rfl rfl) _ a disp22
  | .bneg a disp22 => leads_branch (Effect.start s rfl rfl rfl) _ a disp22
  | .bvs a disp22 => leads_branch (Effect.start s rfl rfl rfl) _ a disp22
  | .ba a disp22 => .done_of ((Effect.start s rfl rfl rfl).branchAlways a disp22) (s.withPending_branchAlways p a disp22)
  | .bne a disp22 => leads_branch (Effect.start s rfl rfl rfl) _ a disp22
  | .bg a disp22 => leads_branch (Effect.start s rfl rfl rfl) _ a disp22
  | .bge a disp22 => leads_branch (Effect.start s rfl rfl rfl) _ a disp22
  | .bgu a disp22 => leads_branch (Effect.start s rfl rfl rfl) _ a disp22
  | .bcc a disp22 => leads_branch (Effect.start s rfl rfl rfl) _ a disp22
  | .bpos a disp22 => leads_branch (Effect.start s rfl rfl rfl) _ a disp22
  | .bvc a disp22 => leads_branch (Effect.start s rfl rfl rfl) _ a disp22
  | .and _ _ _ => leads_finish (Effect.start s rfl rfl rfl) (List.mem_singleton.2 rfl) _
  | .andcc _ _ _ => leads_finishCc (Effect.start s rfl rfl rfl) (List.mem_singleton.2 rfl) rfl _ _
  | .or _ _ _ => leads_finish (Effect.start s rfl rfl rfl) (List.mem_singleton.2 rfl) _
  | .orcc _ _ _ => leads_finishCc (Effect.start s rfl rfl rfl) (List.mem_singleton.2 rfl) rfl _ _
  | .xor _ _ _ => leads_finish (Effect.start s rfl rfl rfl) (List.mem_singleton.2 rfl) _
  | .xorcc _ _ _ => leads_finishCc (Effect.start s rfl rfl rfl) (List.mem_singleton.2 rfl) rfl _ _
  | .andn _ _ _ => leads_finish (Effect.start s rfl rfl rfl) (List.mem_singleton.2 rfl) _
  | .andncc _ _ _ => leads_finishCc (Effect.start s rfl rfl rfl) (List.mem_singleton.2 rfl) rfl _ _
  | .orn _ _ _ => leads_finish (Effect.start s rfl rfl rfl) (List.mem_singleton.2 rfl) _
  | .orncc _ _ _ => leads_finishCc (Effect.start s rfl rfl rfl) (List.mem_singleton.2 rfl) rfl _ _
  | .xnor _ _ _ => leads_finish (Effect.start s rfl rfl rfl) (List.mem_singleton.2 rfl) _
  | .xnorcc _ _ _ => leads_finishCc (Effect.start s rfl rfl rfl) (List.mem_singleton.2 rfl) rfl _ _
  | .add _ _ _ => leads_finish (Effect.start s rfl rfl rfl) (List.mem_singleton.2 rfl) _
  | .addcc _ _ _ => leads_finishCc (Effect.start s rfl rfl rfl) (List.mem_singleton.2 rfl) rfl _ _
  | .sub _ _ _ => leads_finish (Effect.start s rfl rfl rfl) (List.mem_singleton.2 rfl) _
  | .subcc _ _ _ => leads_finishCc (Effect.start s rfl rfl rfl) (List.mem_singleton.2 rfl) rfl _ _
  | .sll _ _ _ => leads_finish (Effect.start s rfl rfl rfl) (List.mem_singleton.2 rfl) _
  | .srl _ _ _ => leads_finish (Effect.start s rfl rfl rfl) (List.mem_singleton.2 rfl) _
  | .sra _ _ _ => leads_finish (Effect.start s rfl rfl rfl) (List.mem_singleton.2 rfl) _
  | .umul _ _ _ => .done_of (((Effect.start s rfl rfl rfl).setReg (List.mem_singleton.2 rfl) _).setY rfl _) (by simp; rfl)
  | .umulcc _ _ _ => .done_of ((((Effect.start s rfl rfl rfl).setReg (List.mem_singleton.2 rfl) _).setY rfl _).setIcc rfl _) (by simp; rfl)
  | .smul _ _ _ => .done_of (((Effect.start s rfl rfl rfl).setReg (List.mem_singleton.2 rfl) _).setY rfl _) (by simp; rfl)
  | .smulcc _ _ _ => .done_of ((((Effect.start s rfl rfl rfl).setReg (List.mem_singleton.2 rfl) _).setY rfl _).setIcc rfl _) (by simp; rfl)
  | .udiv _ _ _ => leads_divide (leads_finish (Effect.start s rfl rfl rfl) (List.mem_singleton.2 rfl) _)
  | .udivcc _ _ _ => leads_divide (leads_finishCc (Effect.start s rfl rfl rfl) (List.mem_singleton.2 rfl) rfl _ _)
  | .sdiv _ _ _ => leads_divide (leads_finish (Effect.start s rfl rfl rfl) (List.mem_singleton.2 rfl) _)
  | .sdivcc _ _ _ => leads_divide (leads_finishCc (Effect.start s rfl rfl rfl) (List.mem_singleton.2 rfl) rfl _ _)
  | .mulscc _ _ _ => .done_of ((((Effect.start s rfl rfl rfl).setReg (List.mem_singleton.2 rfl) _).setY rfl _).setIcc rfl _) (by simp; rfl)
  | .ld _ _ _ => leads_aligned fun _ => leads_access (leads_finish (Effect.start s rfl rfl rfl) (List.mem_singleton.2 rfl) _)
  | .ldub _ _ _ => leads_access (leads_finish (Effect.start s rfl rfl rfl) (List.mem_singleton.2 rfl) _)
  | .ldsb _ _ _ => leads_access (leads_finish (Effect.start s rfl rfl rfl) (List.mem_singleton.2 rfl) _)
  | .ldd _ _ _ => leads_even (leads_aligned fun _ => leads_access (leads_access (.done_of (((Effect.start s rfl rfl rfl).setReg (List.mem_cons.2 (.inl rfl)) _).setReg (List.mem_cons.2 (.inr (List.mem_singleton.2 rfl))) _) (by simp; rfl))))
  | .lduh _ _ _ => leads_aligned fun _ => leads_access (leads_finish (Effect.start s rfl rfl rfl) (List.mem_singleton.2 rfl) _)
  | .ldsh _ _ _ => leads_aligned fun _ => leads_access (leads_finish (Effect.start s rfl rfl rfl) (List.mem_singleton.2 rfl) _)
  | .st _ _ _ => leads_aligned fun _ => leads_access (.done _ ((Effect.start s rfl rfl rfl).putWord rfl _ _))
  | .stb _ _ _ => leads_access (.done _ ((Effect.start s rfl rfl rfl).putByte rfl _ _))
  | .sth _ _ _ => leads_aligned fun _ => leads_access (.done _ ((Effect.start s rfl rfl rfl).putHalf rfl _ _))
  | .std _ _ _ => leads_even (leads_aligned fun _ => leads_access (leads_access (.done _ (((Effect.start s rfl rfl rfl).putWord rfl _ _).putWord rfl _ _))))
  | .call _ => .done_of (((Effect.start s rfl rfl rfl).setReg (List.mem_singleton.2 rfl) _).setNpc2 (.inr fun h => aligned4_add_call h _)) (by simp; rfl)
  | .jmpl _ _ _ => leads_aligned fun h => .done_of (((Effect.start s rfl rfl rfl).setReg (List.mem_singleton.2 rfl) _).setNpc2 (.inl h)) (by simp; rfl)
  | .rett rd rs1 src => leads_rett rd rs1 src s p
  | .tn res rs1 src => leads_ticc (r := rightsOf (.tn res rs1 src)) (Effect.start s rfl rfl rfl) .n rs1 src
  | .te res rs1 src => leads_ticc (r := rightsOf (.te res rs1 src)) (Effect.start s rfl rfl rfl) .e rs1 src
  | .tle res rs1 src => leads_ticc (r := rightsOf (.tle res rs1 src)) (Effect.start s rfl rfl rfl) .le rs1 src
  | .tl res rs1 src => leads_ticc (r := rightsOf (.tl res rs1 src)) (Effect.start s rfl rfl rfl) .l rs1 src
  | .tleu res rs1 src => leads_ticc (r := rightsOf (.tleu res rs1 src)) (Effect.start s rfl rfl rfl) .leu rs1 src
  | .tcs res rs1 src => leads_ticc (r := rightsOf (.tcs res rs1 src)) (Effect.start s rfl rfl rfl) .cs rs1 src
  | .tneg res rs1 src => leads_ticc (r := rightsOf (.tneg res rs1 src)) (Effect.start s rfl rfl rfl) .neg rs1 src
  | .tvs res rs1 src => leads_ticc (r := rightsOf (.tvs res rs1 src)) (Effect.start s rfl rfl rfl) .vs rs1 src
  | .ta res rs1 src => leads_ticc (r := rightsOf (.ta res rs1 src)) (Effect.start s rfl rfl rfl) .a rs1 src
  | .tne res rs1 src => leads_ticc (r := rightsOf (.tne res rs1 src)) (Effect.start s rfl rfl rfl) .ne rs1 src
  | .tg res rs1 src => leads_ticc (r := rightsOf (.tg res rs1 src)) (Effect.start s rfl rfl rfl) .g rs1 src
  | .tge res rs1 src => leads_ticc (r := rightsOf (.tge res rs1 src)) (Effect.start s rfl rfl rfl) .ge rs1 src
  | .tgu res rs1 src => leads_ticc (r := rightsOf (.tgu res rs1 src)) (Effect.start s rfl rfl rfl) .gu rs1 src
  | .tcc res rs1 src => leads_ticc (r := rightsOf (.tcc res rs1 src)) (Effect.start s rfl rfl rfl) .cc rs1 src
  | .tpos res rs1 src => leads_ticc (r := rightsOf (.tpos res rs1 src)) (Effect.start s rfl rfl rfl) .pos rs1 src
  | .tvc res rs1 src => leads_ticc (r := rightsOf (.tvc res rs1 src)) (Effect.start s rfl rfl rfl) .vc rs1 src
  | .save _ _ _ => leads_window (Effect.start s rfl rfl rfl) rfl (List.mem_singleton.2 rfl) rfl rfl State.prevWindow_lt_of_sized _
  | .restore _ _ _ => leads_window (Effect.start s rfl rfl rfl) rfl (List.mem_singleton.2 rfl) rfl rfl State.nextWindow_lt_of_sized _
  | .rdy _ _ => leads_finish (Effect.start s rfl rfl rfl) (List.mem_singleton.2 rfl) _
  | .stbar low => leads_stbar low s p
  | .rdasr _ _ _ => leads_privileged fun _ => .trap _ rfl rfl
  | .rdpsr _ _ _ => leads_privileged fun _ => leads_finish (Effect.start s rfl rfl rfl) (List.mem_singleton.2 rfl) _
  | .rdwim _ _ _ => leads_privileged fun _ => leads_finish (Effect.start s rfl rfl rfl) (List.mem_singleton.2 rfl) _
  | .rdtbr _ _ _ => leads_privileged fun _ => leads_finish (Effect.start s rfl rfl rfl) (List.mem_singleton.2 rfl) _
  | .wry _ _ => .done _ ((Effect.start s rfl rfl rfl).setY rfl _)
  | .wrasr _ _ _ => leads_privileged fun _ => .trap _ rfl rfl
  | .wrpsr rd rs1 src => leads_wrpsr rd rs1 src s p
  | .wrwim _ _ _ => leads_privileged fun hs => .done _ ((Effect.refl s (.inl hs)).setWim rfl _)
  | .wrtbr _ _ _ => leads_privileged fun hs => .done _ ((Effect.refl s (.inl hs)).setTba rfl _)
  | .addx _ _ _ => leads_unlisted fun _ => leads_finish (Effect.start s rfl rfl rfl) (List.mem_singleton.2 rfl) _
  | .addxcc _ _ _ => leads_unlisted fun _ => leads_finishCc (Effect.start s rfl rfl rfl) (List.mem_singleton.2 rfl) rfl _ _
  | .subx _ _ _ => leads_unlisted fun _ => leads_finish (Effect.start s rfl rfl rfl) (List.mem_singleton.2 rfl) _
  | .subxcc _ _ _ => leads_unlisted fun _ => leads_finishCc (Effect.start s rfl rfl rfl) (List.mem_singleton.2 rfl) rfl _ _
  | .taddcc _ _ _ => leads_unlisted fun _ => leads_finishCc (Effect.start s rfl rfl rfl) (List.mem_singleton.2 rfl) rfl _ _
  | .tsubcc _ _ _ => leads_unlisted fun _ => leads_finishCc (Effect.start s rfl rfl rfl) (List.mem_singleton.2 rfl) rfl _ _
  | .taddcctv _ _ _ => leads_unlisted fun hv => leads_trapOnV (Effect.start s rfl rfl rfl) hv (List.mem_singleton.2 rfl) rfl _ _ _ _
  | .tsubcctv _ _ _ => leads_unlisted fun hv => leads_trapOnV (Effect.start s rfl rfl rfl) hv (List.mem_singleton.2 rfl) rfl _ _ _ _
  | .flush _ _ _ => leads_unlisted fun _ => .done s (Effect.start s rfl rfl rfl)
  | .fpop1 _ _ _ _ => .trap .illegalInstruction rfl rfl
  | .fpop2 _ _ _ _ => .trap .illegalInstruction rfl rfl
  | .cpop1 _ _ _ _ => .trap .illegalInstruction rfl rfl
  | .cpop2 _ _ _ _ => .trap .illegalInstruction rfl rfl
  | .ldstub _ _ _ => leads_unlisted fun _ => leads_access (leads_access (leads_finish ((Effect.start s rfl rfl rfl).putByte rfl _ _) (List.mem_singleton.2 rfl) _))
  | .swap _ _ _ => leads_unlisted fun _ => leads_aligned fun _ => leads_access (leads_access (leads_finish ((Effect.start s rfl rfl rfl).putWord rfl _ _) (List.mem_singleton.2 rfl) _))
  | .lda _ _ _ => .trap .illegalInstruction rfl rfl
  | .lduba _ _ _ => .trap .illegalInstruction rfl rfl
  | .lduha _ _ _ => .trap .illegalInstruction rfl rfl
  | .ldda _ _ _ => .trap .illegalInstruction rfl rfl
  | .sta _ _ _ => .trap .illegalInstruction rfl rfl
  | .stba _ _ _ => .trap .illegalInstruction rfl rfl
  | .stha _ _ _ => .trap .illegalInstruction rfl rfl
  | .stda _ _ _ => .trap .illegalInstruction rfl rfl
  | .ldsba _ _ _ => .trap .illegalInstruction rfl rfl
  | .ldsha _ _ _ => .trap .illegalInstruction rfl rfl
  | .ldstuba _ _ _ => .trap .illegalInstruction rfl rfl
  | .swapa _ _ _ => .trap .illegalInstruction rfl rfl
  | .ldf _ _ _ => .trap .illegalInstruction rfl rfl
  | .ldfsr _ _ _ => .trap .illegalInstruction rfl rfl
  | .lddf _ _ _ => .trap .illegalInstruction rfl rfl
  | .stf _ _ _ => .trap .illegalInstruction rfl rfl
  | .stfsr _ _ _ => .trap .illegalInstruction rfl rfl
  | .stdfq _ _ _ => .trap .illegalInstruction rfl rfl
  | .stdf _ _ _ => .trap .illegalInstruction rfl rfl
  | .ldc _ _ _ => .trap .illegalInstruction rfl rfl
  | .ldcsr _ _ _ => .trap .illegalInstruction rfl rfl
  | .lddc _ _ _ => .trap .illegalInstruction rfl rfl
  | .stc _ _ _ => .trap .illegalInstruction rfl rfl
  | .stcsr _ _ _ => .trap .illegalInstruction rfl rfl
  | .stdcq _ _ _ => .trap .illegalInstruction rfl rfl
  | .stdc _ _ _ => .trap .illegalInstruction rfl rfl
  | .unimp _ _ => .trap .illegalInstruction rfl rfl
  | .fbfcc _ _ _ => .trap .illegalInstruction rfl rfl
  | .cbccc _ _ _ => .trap .illegalInstruction rfl rfl

/-! ### Completing a step: what every completion leaves alone -/

/-- The cells of the globals do not depend on the window. -/
theorem State.reg_congr_global {s t : State} (hc : t.cfg = s.cfg) (hg : t.globals = s.globals) (hw : t.windows = s.windows) {g : Reg}
    (h : g.toNat < 8) : t.reg g = s.reg g := by
  rw [State.reg, State.reg, State.cellOf, State.cellOf, hc, regCell_global _ t.psr.cwp s.psr.cwp h]
  exact State.readCell_congr hg hw _

theorem State.enterTrap_reg_global (s : State) (t : Trap) (word : Word) {g : Reg} (h : g.toNat < 8) : (s.enterTrap t word).reg g = s.reg g := by
  have hne : ∀ k : Reg, 8 ≤ k.toNat → g ≠ k := fun k hk he => by subst he; omega
  have h1 : (s.enterTrap t word).reg g = (((s.setPsr (trapPsr s.cfg.nwin s.psr)).setReg 17 s.pc).setReg 18 s.npc).reg g :=
    State.reg_congr_global (by simp) rfl rfl h
  rw [h1, State.reg_setReg_global _ _ h (hne 18 (by decide)), State.reg_setReg_global _ _ h (hne 17 (by decide))]
  exact State.reg_congr_global (s := s) (t := s.setPsr (trapPsr s.cfg.nwin s.psr)) rfl rfl rfl h

/-- What stages 4 to 6 leave of the state they start from, whichever way they end (50_pipeline_controller.md R403 to R405). -/
structure Completed (s u : State) : Prop where
  cfg : u.cfg = s.cfg
  icc : u.psr.icc = s.psr.icc
  pil : u.psr.pil = s.psr.pil
  wim : u.wim = s.wim
  y : u.y = s.y
  tba : u.tbr.tba = s.tbr.tba
  mem : u.mem = s.mem
  bootEntry : u.bootEntry = s.bootEntry
  stage : u.stage = .boundary
  annul : u.annul = false
  globals : ∀ g : Reg, g.toNat < 8 → u.reg g = s.reg g
  /-- The window and the mode bits: kept, S set by a pending reset, or those of trap entry. -/
  mode : ((u.psr.cwp = s.psr.cwp ∧ u.psr.ps = s.psr.ps ∧ u.psr.et = s.psr.et ∧ u.tbr = s.tbr) ∧ (u.psr.s = s.psr.s ∨ (s.isPending .reset = true ∧ u.pc = s.bootEntry ∧ u.pending = 0 ∧ u.psr.s = true))) ∨
    ∃ t, t ≠ Trap.reset ∧ u.psr = trapPsr s.cfg.nwin s.psr ∧ u.tbr.tt = Trap.tt t ∧ u.pc = trapVector s.tbr.tba t

theorem State.complete_frame {s u : State} (h : s.complete = .next u) : Completed s u := by
  obtain ⟨f1, f2, f3, f4, f5, f6, f7, f8, f9, f10, f11, f12, f13⟩ := s.fixedUp_frame
  have hg : ∀ g : Reg, g.toNat < 8 → s.fixedUp.reg g = s.reg g := fun g => State.reg_congr_global f1 f2 f3
  have h5 : s.fixedUp.psr.icc = s.psr.icc ∧ s.fixedUp.psr.pil = s.psr.pil := by rw [f5]; exact ⟨rfl, rfl⟩
  have h7 : s.fixedUp.tbr.tba = s.tbr.tba := by rw [f7]
  rcases State.arbitrate_next (State.complete_next h) with ⟨-, rfl⟩ | ⟨h0, rfl⟩ | ⟨t, -, hr, -, rfl⟩ | ⟨t, -, -, -, -, rfl⟩
  · exact ⟨f1, h5.1, h5.2, f6, f8, h7, f12, f11, rfl, f13, fun g hlt => (reg_advance _ _).trans (hg g hlt),
      .inl ⟨⟨congrArg Psr.cwp f5, congrArg Psr.ps f5, congrArg Psr.et f5, f7⟩, .inl (congrArg Psr.s f5)⟩⟩
  · refine ⟨f1, h5.1, h5.2, f6, f8, h7, f12, f11, rfl, rfl, fun g hlt => ?_, .inl ⟨?_, .inr ⟨?_, f11, rfl, rfl⟩⟩⟩
    · exact (State.reg_congr_global rfl rfl rfl hlt).trans (hg g hlt)
    · have h5' : s.fixedUp.psr.cwp = s.psr.cwp ∧ s.fixedUp.psr.ps = s.psr.ps ∧ s.fixedUp.psr.et = s.psr.et ∧ s.fixedUp.tbr = s.tbr := by
        rw [f5]; exact ⟨rfl, rfl, rfl, f7⟩
      exact h5'
    · have hp := (State.selectTrap_some h0).2.1
      rwa [State.isPending, f9] at hp
  · refine ⟨by simpa using f1, ?_, ?_, by simpa using f6, by simpa using f8, by simpa using h7, by simpa using f12, by simpa using f11, rfl,
      by simpa using f13, fun g hlt => (State.enterTrap_reg_global _ _ _ hlt).trans (hg g hlt), .inr ⟨t, hr, ?_, by simp, ?_⟩⟩
    · simpa [trapPsr] using h5.1
    · simpa [trapPsr] using h5.2
    · simp [f1, f5]
    · simp [h7]
  · exact ⟨f1, h5.1, h5.2, f6, f8, h7, f12, f11, rfl, f13, fun g hlt => (State.reg_congr_global rfl rfl rfl hlt).trans (hg g hlt),
      .inl ⟨⟨congrArg Psr.cwp f5, congrArg Psr.ps f5, congrArg Psr.et f5, f7⟩, .inl (congrArg Psr.s f5)⟩⟩

/-- An instruction that ends in a next state raised one trap, or completed from a state its rights allow. -/
theorem exec_next {i : Instr} {s u : State} (h : exec i s = .next u) :
    (∃ t, Trap.synchronous t = true ∧ Trap.accepted s.cfg t = true ∧ (s.raise t).complete = .next u) ∨
    ∃ e, Effect (rightsOf i) s e ∧ e.complete = .next u := by
  generalize hr : exec i s = r at h
  have hl : Leads (rightsOf i) s s.pending r (exec i (s.withPending s.pending)) := hr ▸ exec_leads i s s.pending
  generalize exec i (s.withPending s.pending) = r' at hl
  cases hl with
  | fault k a n => cases h
  | trap t h1 h2 => exact .inl ⟨t, h1, h2, h⟩
  | done e he => exact .inr ⟨e, he, h⟩

end Sys2Proof.Machine
end

