-- ==== Sys2Proof/Laws/PerInstr.lean ====
section
/-! SUPPORT. The law of every instruction's word: it matches the instruction's row of spec/opcode_table.json, whose mask and match values are copied here from the table (30_encoding.md R115). -/

namespace Sys2Proof.Laws

/-- The mask and the match of each instruction's row, as spec/opcode_table.json has them. -/
def tableRow : Instr → Word × Word
  | .sethi .. => (0xC1C00000, 0x01000000)
  | .bn .. => (0xDFC00000, 0x00800000)
  | .be .. => (0xDFC00000, 0x02800000)
  | .ble .. => (0xDFC00000, 0x04800000)
  | .bl .. => (0xDFC00000, 0x06800000)
  | .bleu .. => (0xDFC00000, 0x08800000)
  | .bcs .. => (0xDFC00000, 0x0A800000)
  | .bneg .. => (0xDFC00000, 0x0C800000)
  | .bvs .. => (0xDFC00000, 0x0E800000)
  | .ba .. => (0xDFC00000, 0x10800000)
  | .bne .. => (0xDFC00000, 0x12800000)
  | .bg .. => (0xDFC00000, 0x14800000)
  | .bge .. => (0xDFC00000, 0x16800000)
  | .bgu .. => (0xDFC00000, 0x18800000)
  | .bcc .. => (0xDFC00000, 0x1A800000)
  | .bpos .. => (0xDFC00000, 0x1C800000)
  | .bvc .. => (0xDFC00000, 0x1E800000)
  | .and .. => (0xC1F80000, 0x80080000)
  | .andcc .. => (0xC1F80000, 0x80880000)
  | .or .. => (0xC1F80000, 0x80100000)
  | .orcc .. => (0xC1F80000, 0x80900000)
  | .xor .. => (0xC1F80000, 0x80180000)
  | .xorcc .. => (0xC1F80000, 0x80980000)
  | .andn .. => (0xC1F80000, 0x80280000)
  | .andncc .. => (0xC1F80000, 0x80A80000)
  | .orn .. => (0xC1F80000, 0x80300000)
  | .orncc .. => (0xC1F80000, 0x80B00000)
  | .xnor .. => (0xC1F80000, 0x80380000)
  | .xnorcc .. => (0xC1F80000, 0x80B80000)
  | .add .. => (0xC1F80000, 0x80000000)
  | .addcc .. => (0xC1F80000, 0x80800000)
  | .sub .. => (0xC1F80000, 0x80200000)
  | .subcc .. => (0xC1F80000, 0x80A00000)
  | .sll .. => (0xC1F80000, 0x81280000)
  | .srl .. => (0xC1F80000, 0x81300000)
  | .sra .. => (0xC1F80000, 0x81380000)
  | .umul .. => (0xC1F80000, 0x80500000)
  | .umulcc .. => (0xC1F80000, 0x80D00000)
  | .smul .. => (0xC1F80000, 0x80580000)
  | .smulcc .. => (0xC1F80000, 0x80D80000)
  | .udiv .. => (0xC1F80000, 0x80700000)
  | .udivcc .. => (0xC1F80000, 0x80F00000)
  | .sdiv .. => (0xC1F80000, 0x80780000)
  | .sdivcc .. => (0xC1F80000, 0x80F80000)
  | .mulscc .. => (0xC1F80000, 0x81200000)
  | .ld .. => (0xC1F80000, 0xC0000000)
  | .ldub .. => (0xC1F80000, 0xC0080000)
  | .ldsb .. => (0xC1F80000, 0xC0480000)
  | .ldd .. => (0xC1F80000, 0xC0180000)
  | .lduh .. => (0xC1F80000, 0xC0100000)
  | .ldsh .. => (0xC1F80000, 0xC0500000)
  | .st .. => (0xC1F80000, 0xC0200000)
  | .stb .. => (0xC1F80000, 0xC0280000)
  | .sth .. => (0xC1F80000, 0xC0300000)
  | .std .. => (0xC1F80000, 0xC0380000)
  | .call .. => (0xC0000000, 0x40000000)
  | .jmpl .. => (0xC1F80000, 0x81C00000)
  | .rett .. => (0xC1F80000, 0x81C80000)
  | .tn .. => (0xDFF80000, 0x81D00000)
  | .te .. => (0xDFF80000, 0x83D00000)
  | .tle .. => (0xDFF80000, 0x85D00000)
  | .tl .. => (0xDFF80000, 0x87D00000)
  | .tleu .. => (0xDFF80000, 0x89D00000)
  | .tcs .. => (0xDFF80000, 0x8BD00000)
  | .tneg .. => (0xDFF80000, 0x8DD00000)
  | .tvs .. => (0xDFF80000, 0x8FD00000)
  | .ta .. => (0xDFF80000, 0x91D00000)
  | .tne .. => (0xDFF80000, 0x93D00000)
  | .tg .. => (0xDFF80000, 0x95D00000)
  | .tge .. => (0xDFF80000, 0x97D00000)
  | .tgu .. => (0xDFF80000, 0x99D00000)
  | .tcc .. => (0xDFF80000, 0x9BD00000)
  | .tpos .. => (0xDFF80000, 0x9DD00000)
  | .tvc .. => (0xDFF80000, 0x9FD00000)
  | .save .. => (0xC1F80000, 0x81E00000)
  | .restore .. => (0xC1F80000, 0x81E80000)
  | .rdy .. => (0xC1FFC000, 0x81400000)
  | .stbar .. => (0xFFFFE000, 0x8143C000)
  | .rdasr .. => (0xC1F80000, 0x81400000)
  | .rdpsr .. => (0xC1F80000, 0x81480000)
  | .rdwim .. => (0xC1F80000, 0x81500000)
  | .rdtbr .. => (0xC1F80000, 0x81580000)
  | .wry .. => (0xFFF80000, 0x81800000)
  | .wrasr .. => (0xC1F80000, 0x81800000)
  | .wrpsr .. => (0xC1F80000, 0x81880000)
  | .wrwim .. => (0xC1F80000, 0x81900000)
  | .wrtbr .. => (0xC1F80000, 0x81980000)
  | .addx .. => (0xC1F80000, 0x80400000)
  | .addxcc .. => (0xC1F80000, 0x80C00000)
  | .subx .. => (0xC1F80000, 0x80600000)
  | .subxcc .. => (0xC1F80000, 0x80E00000)
  | .taddcc .. => (0xC1F80000, 0x81000000)
  | .tsubcc .. => (0xC1F80000, 0x81080000)
  | .taddcctv .. => (0xC1F80000, 0x81100000)
  | .tsubcctv .. => (0xC1F80000, 0x81180000)
  | .flush .. => (0xC1F80000, 0x81D80000)
  | .fpop1 .. => (0xC1F80000, 0x81A00000)
  | .fpop2 .. => (0xC1F80000, 0x81A80000)
  | .cpop1 .. => (0xC1F80000, 0x81B00000)
  | .cpop2 .. => (0xC1F80000, 0x81B80000)
  | .ldstub .. => (0xC1F80000, 0xC0680000)
  | .swap .. => (0xC1F80000, 0xC0780000)
  | .lda .. => (0xC1F80000, 0xC0800000)
  | .lduba .. => (0xC1F80000, 0xC0880000)
  | .lduha .. => (0xC1F80000, 0xC0900000)
  | .ldda .. => (0xC1F80000, 0xC0980000)
  | .sta .. => (0xC1F80000, 0xC0A00000)
  | .stba .. => (0xC1F80000, 0xC0A80000)
  | .stha .. => (0xC1F80000, 0xC0B00000)
  | .stda .. => (0xC1F80000, 0xC0B80000)
  | .ldsba .. => (0xC1F80000, 0xC0C80000)
  | .ldsha .. => (0xC1F80000, 0xC0D00000)
  | .ldstuba .. => (0xC1F80000, 0xC0E80000)
  | .swapa .. => (0xC1F80000, 0xC0F80000)
  | .ldf .. => (0xC1F80000, 0xC1000000)
  | .ldfsr .. => (0xC1F80000, 0xC1080000)
  | .lddf .. => (0xC1F80000, 0xC1180000)
  | .stf .. => (0xC1F80000, 0xC1200000)
  | .stfsr .. => (0xC1F80000, 0xC1280000)
  | .stdfq .. => (0xC1F80000, 0xC1300000)
  | .stdf .. => (0xC1F80000, 0xC1380000)
  | .ldc .. => (0xC1F80000, 0xC1800000)
  | .ldcsr .. => (0xC1F80000, 0xC1880000)
  | .lddc .. => (0xC1F80000, 0xC1980000)
  | .stc .. => (0xC1F80000, 0xC1A00000)
  | .stcsr .. => (0xC1F80000, 0xC1A80000)
  | .stdcq .. => (0xC1F80000, 0xC1B00000)
  | .stdc .. => (0xC1F80000, 0xC1B80000)
  | .unimp .. => (0xC1C00000, 0x00000000)
  | .fbfcc .. => (0xC1C00000, 0x01800000)
  | .cbccc .. => (0xC1C00000, 0x01C00000)

/-- A well-formed instruction's word matches its row. -/
def TableRow.Statement (i : Instr) : Prop := i.wellFormed = true → encode i &&& (tableRow i).1 = (tableRow i).2

theorem TableRow.sethi (rd : Reg) (imm22 : BitVec 22) : TableRow.Statement (.sethi rd imm22) := fun _ => (encodeFormat2_mask rd 4#3 imm22).trans rfl
theorem TableRow.bn (a : Bool) (disp22 : BitVec 22) : TableRow.Statement (.bn a disp22) := fun _ => (encodeFormat2_mask_cond a 0#4 2#3 disp22).trans rfl
theorem TableRow.be (a : Bool) (disp22 : BitVec 22) : TableRow.Statement (.be a disp22) := fun _ => (encodeFormat2_mask_cond a 1#4 2#3 disp22).trans rfl
theorem TableRow.ble (a : Bool) (disp22 : BitVec 22) : TableRow.Statement (.ble a disp22) := fun _ => (encodeFormat2_mask_cond a 2#4 2#3 disp22).trans rfl
theorem TableRow.bl (a : Bool) (disp22 : BitVec 22) : TableRow.Statement (.bl a disp22) := fun _ => (encodeFormat2_mask_cond a 3#4 2#3 disp22).trans rfl
theorem TableRow.bleu (a : Bool) (disp22 : BitVec 22) : TableRow.Statement (.bleu a disp22) := fun _ => (encodeFormat2_mask_cond a 4#4 2#3 disp22).trans rfl
theorem TableRow.bcs (a : Bool) (disp22 : BitVec 22) : TableRow.Statement (.bcs a disp22) := fun _ => (encodeFormat2_mask_cond a 5#4 2#3 disp22).trans rfl
theorem TableRow.bneg (a : Bool) (disp22 : BitVec 22) : TableRow.Statement (.bneg a disp22) := fun _ => (encodeFormat2_mask_cond a 6#4 2#3 disp22).trans rfl
theorem TableRow.bvs (a : Bool) (disp22 : BitVec 22) : TableRow.Statement (.bvs a disp22) := fun _ => (encodeFormat2_mask_cond a 7#4 2#3 disp22).trans rfl
theorem TableRow.ba (a : Bool) (disp22 : BitVec 22) : TableRow.Statement (.ba a disp22) := fun _ => (encodeFormat2_mask_cond a 8#4 2#3 disp22).trans rfl
theorem TableRow.bne (a : Bool) (disp22 : BitVec 22) : TableRow.Statement (.bne a disp22) := fun _ => (encodeFormat2_mask_cond a 9#4 2#3 disp22).trans rfl
theorem TableRow.bg (a : Bool) (disp22 : BitVec 22) : TableRow.Statement (.bg a disp22) := fun _ => (encodeFormat2_mask_cond a 10#4 2#3 disp22).trans rfl
theorem TableRow.bge (a : Bool) (disp22 : BitVec 22) : TableRow.Statement (.bge a disp22) := fun _ => (encodeFormat2_mask_cond a 11#4 2#3 disp22).trans rfl
theorem TableRow.bgu (a : Bool) (disp22 : BitVec 22) : TableRow.Statement (.bgu a disp22) := fun _ => (encodeFormat2_mask_cond a 12#4 2#3 disp22).trans rfl
theorem TableRow.bcc (a : Bool) (disp22 : BitVec 22) : TableRow.Statement (.bcc a disp22) := fun _ => (encodeFormat2_mask_cond a 13#4 2#3 disp22).trans rfl
theorem TableRow.bpos (a : Bool) (disp22 : BitVec 22) : TableRow.Statement (.bpos a disp22) := fun _ => (encodeFormat2_mask_cond a 14#4 2#3 disp22).trans rfl
theorem TableRow.bvc (a : Bool) (disp22 : BitVec 22) : TableRow.Statement (.bvc a disp22) := fun _ => (encodeFormat2_mask_cond a 15#4 2#3 disp22).trans rfl
theorem TableRow.and (rd rs1 : Reg) (src : Operand2) : TableRow.Statement (.and rd rs1 src) := fun _ => (encodeFormat3_mask 2#2 rd 0x01#6 rs1 (encodeOperand2 src)).trans rfl
theorem TableRow.andcc (rd rs1 : Reg) (src : Operand2) : TableRow.Statement (.andcc rd rs1 src) := fun _ => (encodeFormat3_mask 2#2 rd 0x11#6 rs1 (encodeOperand2 src)).trans rfl
theorem TableRow.or (rd rs1 : Reg) (src : Operand2) : TableRow.Statement (.or rd rs1 src) := fun _ => (encodeFormat3_mask 2#2 rd 0x02#6 rs1 (encodeOperand2 src)).trans rfl
theorem TableRow.orcc (rd rs1 : Reg) (src : Operand2) : TableRow.Statement (.orcc rd rs1 src) := fun _ => (encodeFormat3_mask 2#2 rd 0x12#6 rs1 (encodeOperand2 src)).trans rfl
theorem TableRow.xor (rd rs1 : Reg) (src : Operand2) : TableRow.Statement (.xor rd rs1 src) := fun _ => (encodeFormat3_mask 2#2 rd 0x03#6 rs1 (encodeOperand2 src)).trans rfl
theorem TableRow.xorcc (rd rs1 : Reg) (src : Operand2) : TableRow.Statement (.xorcc rd rs1 src) := fun _ => (encodeFormat3_mask 2#2 rd 0x13#6 rs1 (encodeOperand2 src)).trans rfl
theorem TableRow.andn (rd rs1 : Reg) (src : Operand2) : TableRow.Statement (.andn rd rs1 src) := fun _ => (encodeFormat3_mask 2#2 rd 0x05#6 rs1 (encodeOperand2 src)).trans rfl
theorem TableRow.andncc (rd rs1 : Reg) (src : Operand2) : TableRow.Statement (.andncc rd rs1 src) := fun _ => (encodeFormat3_mask 2#2 rd 0x15#6 rs1 (encodeOperand2 src)).trans rfl
theorem TableRow.orn (rd rs1 : Reg) (src : Operand2) : TableRow.Statement (.orn rd rs1 src) := fun _ => (encodeFormat3_mask 2#2 rd 0x06#6 rs1 (encodeOperand2 src)).trans rfl
theorem TableRow.orncc (rd rs1 : Reg) (src : Operand2) : TableRow.Statement (.orncc rd rs1 src) := fun _ => (encodeFormat3_mask 2#2 rd 0x16#6 rs1 (encodeOperand2 src)).trans rfl
theorem TableRow.xnor (rd rs1 : Reg) (src : Operand2) : TableRow.Statement (.xnor rd rs1 src) := fun _ => (encodeFormat3_mask 2#2 rd 0x07#6 rs1 (encodeOperand2 src)).trans rfl
theorem TableRow.xnorcc (rd rs1 : Reg) (src : Operand2) : TableRow.Statement (.xnorcc rd rs1 src) := fun _ => (encodeFormat3_mask 2#2 rd 0x17#6 rs1 (encodeOperand2 src)).trans rfl
theorem TableRow.add (rd rs1 : Reg) (src : Operand2) : TableRow.Statement (.add rd rs1 src) := fun _ => (encodeFormat3_mask 2#2 rd 0x00#6 rs1 (encodeOperand2 src)).trans rfl
theorem TableRow.addcc (rd rs1 : Reg) (src : Operand2) : TableRow.Statement (.addcc rd rs1 src) := fun _ => (encodeFormat3_mask 2#2 rd 0x10#6 rs1 (encodeOperand2 src)).trans rfl
theorem TableRow.sub (rd rs1 : Reg) (src : Operand2) : TableRow.Statement (.sub rd rs1 src) := fun _ => (encodeFormat3_mask 2#2 rd 0x04#6 rs1 (encodeOperand2 src)).trans rfl
theorem TableRow.subcc (rd rs1 : Reg) (src : Operand2) : TableRow.Statement (.subcc rd rs1 src) := fun _ => (encodeFormat3_mask 2#2 rd 0x14#6 rs1 (encodeOperand2 src)).trans rfl
theorem TableRow.sll (rd rs1 : Reg) (src : Operand2) : TableRow.Statement (.sll rd rs1 src) := fun _ => (encodeFormat3_mask 2#2 rd 0x25#6 rs1 (encodeOperand2 src)).trans rfl
theorem TableRow.srl (rd rs1 : Reg) (src : Operand2) : TableRow.Statement (.srl rd rs1 src) := fun _ => (encodeFormat3_mask 2#2 rd 0x26#6 rs1 (encodeOperand2 src)).trans rfl
theorem TableRow.sra (rd rs1 : Reg) (src : Operand2) : TableRow.Statement (.sra rd rs1 src) := fun _ => (encodeFormat3_mask 2#2 rd 0x27#6 rs1 (encodeOperand2 src)).trans rfl
theorem TableRow.umul (rd rs1 : Reg) (src : Operand2) : TableRow.Statement (.umul rd rs1 src) := fun _ => (encodeFormat3_mask 2#2 rd 0x0a#6 rs1 (encodeOperand2 src)).trans rfl
theorem TableRow.umulcc (rd rs1 : Reg) (src : Operand2) : TableRow.Statement (.umulcc rd rs1 src) := fun _ => (encodeFormat3_mask 2#2 rd 0x1a#6 rs1 (encodeOperand2 src)).trans rfl
theorem TableRow.smul (rd rs1 : Reg) (src : Operand2) : TableRow.Statement (.smul rd rs1 src) := fun _ => (encodeFormat3_mask 2#2 rd 0x0b#6 rs1 (encodeOperand2 src)).trans rfl
theorem TableRow.smulcc (rd rs1 : Reg) (src : Operand2) : TableRow.Statement (.smulcc rd rs1 src) := fun _ => (encodeFormat3_mask 2#2 rd 0x1b#6 rs1 (encodeOperand2 src)).trans rfl
theorem TableRow.udiv (rd rs1 : Reg) (src : Operand2) : TableRow.Statement (.udiv rd rs1 src) := fun _ => (encodeFormat3_mask 2#2 rd 0x0e#6 rs1 (encodeOperand2 src)).trans rfl
theorem TableRow.udivcc (rd rs1 : Reg) (src : Operand2) : TableRow.Statement (.udivcc rd rs1 src) := fun _ => (encodeFormat3_mask 2#2 rd 0x1e#6 rs1 (encodeOperand2 src)).trans rfl
theorem TableRow.sdiv (rd rs1 : Reg) (src : Operand2) : TableRow.Statement (.sdiv rd rs1 src) := fun _ => (encodeFormat3_mask 2#2 rd 0x0f#6 rs1 (encodeOperand2 src)).trans rfl
theorem TableRow.sdivcc (rd rs1 : Reg) (src : Operand2) : TableRow.Statement (.sdivcc rd rs1 src) := fun _ => (encodeFormat3_mask 2#2 rd 0x1f#6 rs1 (encodeOperand2 src)).trans rfl
theorem TableRow.mulscc (rd rs1 : Reg) (src : Operand2) : TableRow.Statement (.mulscc rd rs1 src) := fun _ => (encodeFormat3_mask 2#2 rd 0x24#6 rs1 (encodeOperand2 src)).trans rfl
theorem TableRow.ld (rd rs1 : Reg) (src : Operand2) : TableRow.Statement (.ld rd rs1 src) := fun _ => (encodeFormat3_mask 3#2 rd 0x00#6 rs1 (encodeOperand2 src)).trans rfl
theorem TableRow.ldub (rd rs1 : Reg) (src : Operand2) : TableRow.Statement (.ldub rd rs1 src) := fun _ => (encodeFormat3_mask 3#2 rd 0x01#6 rs1 (encodeOperand2 src)).trans rfl
theorem TableRow.ldsb (rd rs1 : Reg) (src : Operand2) : TableRow.Statement (.ldsb rd rs1 src) := fun _ => (encodeFormat3_mask 3#2 rd 0x09#6 rs1 (encodeOperand2 src)).trans rfl
theorem TableRow.ldd (rd rs1 : Reg) (src : Operand2) : TableRow.Statement (.ldd rd rs1 src) := fun _ => (encodeFormat3_mask 3#2 rd 0x03#6 rs1 (encodeOperand2 src)).trans rfl
theorem TableRow.lduh (rd rs1 : Reg) (src : Operand2) : TableRow.Statement (.lduh rd rs1 src) := fun _ => (encodeFormat3_mask 3#2 rd 0x02#6 rs1 (encodeOperand2 src)).trans rfl
theorem TableRow.ldsh (rd rs1 : Reg) (src : Operand2) : TableRow.Statement (.ldsh rd rs1 src) := fun _ => (encodeFormat3_mask 3#2 rd 0x0a#6 rs1 (encodeOperand2 src)).trans rfl
theorem TableRow.st (rd rs1 : Reg) (src : Operand2) : TableRow.Statement (.st rd rs1 src) := fun _ => (encodeFormat3_mask 3#2 rd 0x04#6 rs1 (encodeOperand2 src)).trans rfl
theorem TableRow.stb (rd rs1 : Reg) (src : Operand2) : TableRow.Statement (.stb rd rs1 src) := fun _ => (encodeFormat3_mask 3#2 rd 0x05#6 rs1 (encodeOperand2 src)).trans rfl
theorem TableRow.sth (rd rs1 : Reg) (src : Operand2) : TableRow.Statement (.sth rd rs1 src) := fun _ => (encodeFormat3_mask 3#2 rd 0x06#6 rs1 (encodeOperand2 src)).trans rfl
theorem TableRow.std (rd rs1 : Reg) (src : Operand2) : TableRow.Statement (.std rd rs1 src) := fun _ => (encodeFormat3_mask 3#2 rd 0x07#6 rs1 (encodeOperand2 src)).trans rfl
theorem TableRow.call (disp30 : BitVec 30) : TableRow.Statement (.call disp30) := fun _ => call_mask disp30
theorem TableRow.jmpl (rd rs1 : Reg) (src : Operand2) : TableRow.Statement (.jmpl rd rs1 src) := fun _ => (encodeFormat3_mask 2#2 rd 0x38#6 rs1 (encodeOperand2 src)).trans rfl
theorem TableRow.rett (rd rs1 : Reg) (src : Operand2) : TableRow.Statement (.rett rd rs1 src) := fun _ => (encodeFormat3_mask 2#2 rd 0x39#6 rs1 (encodeOperand2 src)).trans rfl
theorem TableRow.tn (res : Bool) (rs1 : Reg) (src : Operand2) : TableRow.Statement (.tn res rs1 src) := fun _ => (encodeFormat3_mask_cond 2#2 res 0#4 0x3a#6 rs1 (encodeOperand2 src)).trans rfl
theorem TableRow.te (res : Bool) (rs1 : Reg) (src : Operand2) : TableRow.Statement (.te res rs1 src) := fun _ => (encodeFormat3_mask_cond 2#2 res 1#4 0x3a#6 rs1 (encodeOperand2 src)).trans rfl
theorem TableRow.tle (res : Bool) (rs1 : Reg) (src : Operand2) : TableRow.Statement (.tle res rs1 src) := fun _ => (encodeFormat3_mask_cond 2#2 res 2#4 0x3a#6 rs1 (encodeOperand2 src)).trans rfl
theorem TableRow.tl (res : Bool) (rs1 : Reg) (src : Operand2) : TableRow.Statement (.tl res rs1 src) := fun _ => (encodeFormat3_mask_cond 2#2 res 3#4 0x3a#6 rs1 (encodeOperand2 src)).trans rfl
theorem TableRow.tleu (res : Bool) (rs1 : Reg) (src : Operand2) : TableRow.Statement (.tleu res rs1 src) := fun _ => (encodeFormat3_mask_cond 2#2 res 4#4 0x3a#6 rs1 (encodeOperand2 src)).trans rfl
theorem TableRow.tcs (res : Bool) (rs1 : Reg) (src : Operand2) : TableRow.Statement (.tcs res rs1 src) := fun _ => (encodeFormat3_mask_cond 2#2 res 5#4 0x3a#6 rs1 (encodeOperand2 src)).trans rfl
theorem TableRow.tneg (res : Bool) (rs1 : Reg) (src : Operand2) : TableRow.Statement (.tneg res rs1 src) := fun _ => (encodeFormat3_mask_cond 2#2 res 6#4 0x3a#6 rs1 (encodeOperand2 src)).trans rfl
theorem TableRow.tvs (res : Bool) (rs1 : Reg) (src : Operand2) : TableRow.Statement (.tvs res rs1 src) := fun _ => (encodeFormat3_mask_cond 2#2 res 7#4 0x3a#6 rs1 (encodeOperand2 src)).trans rfl
theorem TableRow.ta (res : Bool) (rs1 : Reg) (src : Operand2) : TableRow.Statement (.ta res rs1 src) := fun _ => (encodeFormat3_mask_cond 2#2 res 8#4 0x3a#6 rs1 (encodeOperand2 src)).trans rfl
theorem TableRow.tne (res : Bool) (rs1 : Reg) (src : Operand2) : TableRow.Statement (.tne res rs1 src) := fun _ => (encodeFormat3_mask_cond 2#2 res 9#4 0x3a#6 rs1 (encodeOperand2 src)).trans rfl
theorem TableRow.tg (res : Bool) (rs1 : Reg) (src : Operand2) : TableRow.Statement (.tg res rs1 src) := fun _ => (encodeFormat3_mask_cond 2#2 res 10#4 0x3a#6 rs1 (encodeOperand2 src)).trans rfl
theorem TableRow.tge (res : Bool) (rs1 : Reg) (src : Operand2) : TableRow.Statement (.tge res rs1 src) := fun _ => (encodeFormat3_mask_cond 2#2 res 11#4 0x3a#6 rs1 (encodeOperand2 src)).trans rfl
theorem TableRow.tgu (res : Bool) (rs1 : Reg) (src : Operand2) : TableRow.Statement (.tgu res rs1 src) := fun _ => (encodeFormat3_mask_cond 2#2 res 12#4 0x3a#6 rs1 (encodeOperand2 src)).trans rfl
theorem TableRow.tcc (res : Bool) (rs1 : Reg) (src : Operand2) : TableRow.Statement (.tcc res rs1 src) := fun _ => (encodeFormat3_mask_cond 2#2 res 13#4 0x3a#6 rs1 (encodeOperand2 src)).trans rfl
theorem TableRow.tpos (res : Bool) (rs1 : Reg) (src : Operand2) : TableRow.Statement (.tpos res rs1 src) := fun _ => (encodeFormat3_mask_cond 2#2 res 14#4 0x3a#6 rs1 (encodeOperand2 src)).trans rfl
theorem TableRow.tvc (res : Bool) (rs1 : Reg) (src : Operand2) : TableRow.Statement (.tvc res rs1 src) := fun _ => (encodeFormat3_mask_cond 2#2 res 15#4 0x3a#6 rs1 (encodeOperand2 src)).trans rfl
theorem TableRow.save (rd rs1 : Reg) (src : Operand2) : TableRow.Statement (.save rd rs1 src) := fun _ => (encodeFormat3_mask 2#2 rd 0x3c#6 rs1 (encodeOperand2 src)).trans rfl
theorem TableRow.restore (rd rs1 : Reg) (src : Operand2) : TableRow.Statement (.restore rd rs1 src) := fun _ => (encodeFormat3_mask 2#2 rd 0x3d#6 rs1 (encodeOperand2 src)).trans rfl
theorem TableRow.rdy (rd : Reg) (low : BitVec 14) : TableRow.Statement (.rdy rd low) := fun _ => (encodeFormat3_mask_rs1 2#2 rd 0x28#6 0 low).trans rfl
theorem TableRow.stbar (low : BitVec 13) : TableRow.Statement (.stbar low) := fun _ => (encodeFormat3_mask_stbar 2#2 0 0x28#6 15 low).trans rfl
theorem TableRow.rdasr (rd asr : Reg) (low : BitVec 14) : TableRow.Statement (.rdasr rd asr low) := fun _ => (encodeFormat3_mask 2#2 rd 0x28#6 asr low).trans rfl
theorem TableRow.rdpsr (rd rs1 : Reg) (low : BitVec 14) : TableRow.Statement (.rdpsr rd rs1 low) := fun _ => (encodeFormat3_mask 2#2 rd 0x29#6 rs1 low).trans rfl
theorem TableRow.rdwim (rd rs1 : Reg) (low : BitVec 14) : TableRow.Statement (.rdwim rd rs1 low) := fun _ => (encodeFormat3_mask 2#2 rd 0x2a#6 rs1 low).trans rfl
theorem TableRow.rdtbr (rd rs1 : Reg) (low : BitVec 14) : TableRow.Statement (.rdtbr rd rs1 low) := fun _ => (encodeFormat3_mask 2#2 rd 0x2b#6 rs1 low).trans rfl
theorem TableRow.wry (rs1 : Reg) (src : Operand2) : TableRow.Statement (.wry rs1 src) := fun _ => (encodeFormat3_mask_rd 2#2 0 0x30#6 rs1 (encodeOperand2 src)).trans rfl
theorem TableRow.wrasr (asr rs1 : Reg) (src : Operand2) : TableRow.Statement (.wrasr asr rs1 src) := fun _ => (encodeFormat3_mask 2#2 asr 0x30#6 rs1 (encodeOperand2 src)).trans rfl
theorem TableRow.wrpsr (rd rs1 : Reg) (src : Operand2) : TableRow.Statement (.wrpsr rd rs1 src) := fun _ => (encodeFormat3_mask 2#2 rd 0x31#6 rs1 (encodeOperand2 src)).trans rfl
theorem TableRow.wrwim (rd rs1 : Reg) (src : Operand2) : TableRow.Statement (.wrwim rd rs1 src) := fun _ => (encodeFormat3_mask 2#2 rd 0x32#6 rs1 (encodeOperand2 src)).trans rfl
theorem TableRow.wrtbr (rd rs1 : Reg) (src : Operand2) : TableRow.Statement (.wrtbr rd rs1 src) := fun _ => (encodeFormat3_mask 2#2 rd 0x33#6 rs1 (encodeOperand2 src)).trans rfl
theorem TableRow.addx (rd rs1 : Reg) (src : Operand2) : TableRow.Statement (.addx rd rs1 src) := fun _ => (encodeFormat3_mask 2#2 rd 0x08#6 rs1 (encodeOperand2 src)).trans rfl
theorem TableRow.addxcc (rd rs1 : Reg) (src : Operand2) : TableRow.Statement (.addxcc rd rs1 src) := fun _ => (encodeFormat3_mask 2#2 rd 0x18#6 rs1 (encodeOperand2 src)).trans rfl
theorem TableRow.subx (rd rs1 : Reg) (src : Operand2) : TableRow.Statement (.subx rd rs1 src) := fun _ => (encodeFormat3_mask 2#2 rd 0x0c#6 rs1 (encodeOperand2 src)).trans rfl
theorem TableRow.subxcc (rd rs1 : Reg) (src : Operand2) : TableRow.Statement (.subxcc rd rs1 src) := fun _ => (encodeFormat3_mask 2#2 rd 0x1c#6 rs1 (encodeOperand2 src)).trans rfl
theorem TableRow.taddcc (rd rs1 : Reg) (src : Operand2) : TableRow.Statement (.taddcc rd rs1 src) := fun _ => (encodeFormat3_mask 2#2 rd 0x20#6 rs1 (encodeOperand2 src)).trans rfl
theorem TableRow.tsubcc (rd rs1 : Reg) (src : Operand2) : TableRow.Statement (.tsubcc rd rs1 src) := fun _ => (encodeFormat3_mask 2#2 rd 0x21#6 rs1 (encodeOperand2 src)).trans rfl
theorem TableRow.taddcctv (rd rs1 : Reg) (src : Operand2) : TableRow.Statement (.taddcctv rd rs1 src) := fun _ => (encodeFormat3_mask 2#2 rd 0x22#6 rs1 (encodeOperand2 src)).trans rfl
theorem TableRow.tsubcctv (rd rs1 : Reg) (src : Operand2) : TableRow.Statement (.tsubcctv rd rs1 src) := fun _ => (encodeFormat3_mask 2#2 rd 0x23#6 rs1 (encodeOperand2 src)).trans rfl
theorem TableRow.flush (rd rs1 : Reg) (src : Operand2) : TableRow.Statement (.flush rd rs1 src) := fun _ => (encodeFormat3_mask 2#2 rd 0x3b#6 rs1 (encodeOperand2 src)).trans rfl
theorem TableRow.fpop1 (rd rs1 : Reg) (opf : BitVec 9) (rs2 : Reg) : TableRow.Statement (.fpop1 rd rs1 opf rs2) := fun _ => (encodeFormat3_mask 2#2 rd 0x34#6 rs1 (opf ++ rs2)).trans rfl
theorem TableRow.fpop2 (rd rs1 : Reg) (opf : BitVec 9) (rs2 : Reg) : TableRow.Statement (.fpop2 rd rs1 opf rs2) := fun _ => (encodeFormat3_mask 2#2 rd 0x35#6 rs1 (opf ++ rs2)).trans rfl
theorem TableRow.cpop1 (rd rs1 : Reg) (opf : BitVec 9) (rs2 : Reg) : TableRow.Statement (.cpop1 rd rs1 opf rs2) := fun _ => (encodeFormat3_mask 2#2 rd 0x36#6 rs1 (opf ++ rs2)).trans rfl
theorem TableRow.cpop2 (rd rs1 : Reg) (opf : BitVec 9) (rs2 : Reg) : TableRow.Statement (.cpop2 rd rs1 opf rs2) := fun _ => (encodeFormat3_mask 2#2 rd 0x37#6 rs1 (opf ++ rs2)).trans rfl
theorem TableRow.ldstub (rd rs1 : Reg) (src : Operand2) : TableRow.Statement (.ldstub rd rs1 src) := fun _ => (encodeFormat3_mask 3#2 rd 0x0d#6 rs1 (encodeOperand2 src)).trans rfl
theorem TableRow.swap (rd rs1 : Reg) (src : Operand2) : TableRow.Statement (.swap rd rs1 src) := fun _ => (encodeFormat3_mask 3#2 rd 0x0f#6 rs1 (encodeOperand2 src)).trans rfl
theorem TableRow.lda (rd rs1 : Reg) (src : Operand2) : TableRow.Statement (.lda rd rs1 src) := fun _ => (encodeFormat3_mask 3#2 rd 0x10#6 rs1 (encodeOperand2 src)).trans rfl
theorem TableRow.lduba (rd rs1 : Reg) (src : Operand2) : TableRow.Statement (.lduba rd rs1 src) := fun _ => (encodeFormat3_mask 3#2 rd 0x11#6 rs1 (encodeOperand2 src)).trans rfl
theorem TableRow.lduha (rd rs1 : Reg) (src : Operand2) : TableRow.Statement (.lduha rd rs1 src) := fun _ => (encodeFormat3_mask 3#2 rd 0x12#6 rs1 (encodeOperand2 src)).trans rfl
theorem TableRow.ldda (rd rs1 : Reg) (src : Operand2) : TableRow.Statement (.ldda rd rs1 src) := fun _ => (encodeFormat3_mask 3#2 rd 0x13#6 rs1 (encodeOperand2 src)).trans rfl
theorem TableRow.sta (rd rs1 : Reg) (src : Operand2) : TableRow.Statement (.sta rd rs1 src) := fun _ => (encodeFormat3_mask 3#2 rd 0x14#6 rs1 (encodeOperand2 src)).trans rfl
theorem TableRow.stba (rd rs1 : Reg) (src : Operand2) : TableRow.Statement (.stba rd rs1 src) := fun _ => (encodeFormat3_mask 3#2 rd 0x15#6 rs1 (encodeOperand2 src)).trans rfl
theorem TableRow.stha (rd rs1 : Reg) (src : Operand2) : TableRow.Statement (.stha rd rs1 src) := fun _ => (encodeFormat3_mask 3#2 rd 0x16#6 rs1 (encodeOperand2 src)).trans rfl
theorem TableRow.stda (rd rs1 : Reg) (src : Operand2) : TableRow.Statement (.stda rd rs1 src) := fun _ => (encodeFormat3_mask 3#2 rd 0x17#6 rs1 (encodeOperand2 src)).trans rfl
theorem TableRow.ldsba (rd rs1 : Reg) (src : Operand2) : TableRow.Statement (.ldsba rd rs1 src) := fun _ => (encodeFormat3_mask 3#2 rd 0x19#6 rs1 (encodeOperand2 src)).trans rfl
theorem TableRow.ldsha (rd rs1 : Reg) (src : Operand2) : TableRow.Statement (.ldsha rd rs1 src) := fun _ => (encodeFormat3_mask 3#2 rd 0x1a#6 rs1 (encodeOperand2 src)).trans rfl
theorem TableRow.ldstuba (rd rs1 : Reg) (src : Operand2) : TableRow.Statement (.ldstuba rd rs1 src) := fun _ => (encodeFormat3_mask 3#2 rd 0x1d#6 rs1 (encodeOperand2 src)).trans rfl
theorem TableRow.swapa (rd rs1 : Reg) (src : Operand2) : TableRow.Statement (.swapa rd rs1 src) := fun _ => (encodeFormat3_mask 3#2 rd 0x1f#6 rs1 (encodeOperand2 src)).trans rfl
theorem TableRow.ldf (rd rs1 : Reg) (src : Operand2) : TableRow.Statement (.ldf rd rs1 src) := fun _ => (encodeFormat3_mask 3#2 rd 0x20#6 rs1 (encodeOperand2 src)).trans rfl
theorem TableRow.ldfsr (rd rs1 : Reg) (src : Operand2) : TableRow.Statement (.ldfsr rd rs1 src) := fun _ => (encodeFormat3_mask 3#2 rd 0x21#6 rs1 (encodeOperand2 src)).trans rfl
theorem TableRow.lddf (rd rs1 : Reg) (src : Operand2) : TableRow.Statement (.lddf rd rs1 src) := fun _ => (encodeFormat3_mask 3#2 rd 0x23#6 rs1 (encodeOperand2 src)).trans rfl
theorem TableRow.stf (rd rs1 : Reg) (src : Operand2) : TableRow.Statement (.stf rd rs1 src) := fun _ => (encodeFormat3_mask 3#2 rd 0x24#6 rs1 (encodeOperand2 src)).trans rfl
theorem TableRow.stfsr (rd rs1 : Reg) (src : Operand2) : TableRow.Statement (.stfsr rd rs1 src) := fun _ => (encodeFormat3_mask 3#2 rd 0x25#6 rs1 (encodeOperand2 src)).trans rfl
theorem TableRow.stdfq (rd rs1 : Reg) (src : Operand2) : TableRow.Statement (.stdfq rd rs1 src) := fun _ => (encodeFormat3_mask 3#2 rd 0x26#6 rs1 (encodeOperand2 src)).trans rfl
theorem TableRow.stdf (rd rs1 : Reg) (src : Operand2) : TableRow.Statement (.stdf rd rs1 src) := fun _ => (encodeFormat3_mask 3#2 rd 0x27#6 rs1 (encodeOperand2 src)).trans rfl
theorem TableRow.ldc (rd rs1 : Reg) (src : Operand2) : TableRow.Statement (.ldc rd rs1 src) := fun _ => (encodeFormat3_mask 3#2 rd 0x30#6 rs1 (encodeOperand2 src)).trans rfl
theorem TableRow.ldcsr (rd rs1 : Reg) (src : Operand2) : TableRow.Statement (.ldcsr rd rs1 src) := fun _ => (encodeFormat3_mask 3#2 rd 0x31#6 rs1 (encodeOperand2 src)).trans rfl
theorem TableRow.lddc (rd rs1 : Reg) (src : Operand2) : TableRow.Statement (.lddc rd rs1 src) := fun _ => (encodeFormat3_mask 3#2 rd 0x33#6 rs1 (encodeOperand2 src)).trans rfl
theorem TableRow.stc (rd rs1 : Reg) (src : Operand2) : TableRow.Statement (.stc rd rs1 src) := fun _ => (encodeFormat3_mask 3#2 rd 0x34#6 rs1 (encodeOperand2 src)).trans rfl
theorem TableRow.stcsr (rd rs1 : Reg) (src : Operand2) : TableRow.Statement (.stcsr rd rs1 src) := fun _ => (encodeFormat3_mask 3#2 rd 0x35#6 rs1 (encodeOperand2 src)).trans rfl
theorem TableRow.stdcq (rd rs1 : Reg) (src : Operand2) : TableRow.Statement (.stdcq rd rs1 src) := fun _ => (encodeFormat3_mask 3#2 rd 0x36#6 rs1 (encodeOperand2 src)).trans rfl
theorem TableRow.stdc (rd rs1 : Reg) (src : Operand2) : TableRow.Statement (.stdc rd rs1 src) := fun _ => (encodeFormat3_mask 3#2 rd 0x37#6 rs1 (encodeOperand2 src)).trans rfl
theorem TableRow.unimp (rd : Reg) (const22 : BitVec 22) : TableRow.Statement (.unimp rd const22) := fun _ => (encodeFormat2_mask rd 0#3 const22).trans rfl
theorem TableRow.fbfcc (a : Bool) (cond : BitVec 4) (disp22 : BitVec 22) : TableRow.Statement (.fbfcc a cond disp22) := fun _ => (encodeFormat2_mask (condField a cond) 6#3 disp22).trans rfl
theorem TableRow.cbccc (a : Bool) (cond : BitVec 4) (disp22 : BitVec 22) : TableRow.Statement (.cbccc a cond disp22) := fun _ => (encodeFormat2_mask (condField a cond) 7#3 disp22).trans rfl

end Sys2Proof.Laws
end

