-- ==== Sys2Proof/Laws/Steps.lean ====
section
/-! SUPPORT. One inversion of the step, and the small facts about ids and alignment that the invariant of a step boundary uses. -/

namespace Sys2Proof.Machine

/-- The id table is read back from the trap types. -/
theorem Trap.ofTt_tt (t : Trap) : Trap.ofTt (Trap.tt t) = some t := by
  cases t with
  | interruptLevel level => revert level; decide
  | trapInstruction n => revert n; decide
  | _ => decide

/-- No two traps have one trap type. -/
theorem Trap.tt_injective {t u : Trap} (h : Trap.tt t = Trap.tt u) : t = u :=
  Option.some.inj (by rw [← Trap.ofTt_tt t, ← Trap.ofTt_tt u, h])

theorem aligned4_add {a : Word} (h : aligned4 a = true) : aligned4 (a + 4) = true ∧ aligned4 (a + 8) = true := by
  simp only [aligned4_iff, decide_eq_true_eq, BitVec.toNat_add] at *
  constructor <;> (simp; omega)

/-- A vector is a multiple of 16 (60_exceptions.md R467). -/
theorem trapVector_aligned (tba : BitVec 20) (t : Trap) : aligned4 (trapVector tba t) = true := by
  have h : (trapVector tba t).toNat % 16 = 0 := by
    simp only [trapVector, BitVec.toNat_append]
    rw [← Nat.shiftLeft_add_eq_or_of_lt (by simp)]
    simp [Nat.shiftLeft_eq]
  rw [aligned4_iff, decide_eq_true_eq]
  omega

/-- Everything a step that answers a next state can be: nothing, in error mode, or the fetch and the execution of the staged word. -/
theorem step_next {s t : State} (h : step s = .next t) :
    (s.status = .error ∧ t = s) ∨
    (s.status = .normal ∧ s.stage = .boundary ∧ s.portFaults .fetch s.npc 4 = false ∧
      execDecoded (decode s.cfg.implUnlisted s.slot0)
        { s with slot1 := s.wordAt s.npc, dec := decode s.cfg.implUnlisted s.slot0, stage := .decoded } = .next t) := by
  unfold step callStep callFetch State.whenRunning at h
  split at h
  · rename_i he
    simp only [andThen, callDecode, callExec, State.whenRunning, he] at h
    exact .inl ⟨he, (Host.Outcome.next.inj h).symm⟩
  · simp [andThen] at h
  · rename_i hn
    split_ifs at h with h1 h2
    · simp [andThen] at h
    · unfold State.fetchStage State.fetch32 State.access at h
      split_ifs at h with hf
      · simp [thenPort, andThen] at h
      · refine .inr ⟨hn, h2, by simpa using hf, ?_⟩
        simpa [thenPort, andThen, callDecode, callExec, State.whenRunning, hn, State.decodeStage] using h
    · simp [andThen] at h

/-- `exec_next` for what the decoder answers: Invalid raises illegal_instruction (30_encoding.md R108). -/
theorem execDecoded_next {d : Decoded} {s u : State} (h : execDecoded d s = .next u) :
    (∃ t, Trap.synchronous t = true ∧ Trap.accepted s.cfg t = true ∧ (s.raise t).complete = .next u) ∨
    ∃ i e, Effect (rightsOf i) s e ∧ e.complete = .next u := by
  cases d with
  | invalid c => exact .inl ⟨.illegalInstruction, rfl, rfl, h⟩
  | instr i =>
    rcases exec_next h with h | ⟨e, he⟩
    · exact .inl h
    · exact .inr ⟨i, e, he⟩

end Sys2Proof.Machine
end

