-- ==== Sys2Proof/Laws/Words.lean ====
section
/-! SUPPORT. The words the model puts together bit by bit, as numbers. -/

namespace Sys2Proof.Machine

theorem toNat_append_add {n m : Nat} (x : BitVec n) (y : BitVec m) : (x ++ y).toNat = x.toNat * 2 ^ m + y.toNat := by
  rw [BitVec.toNat_append, ← Nat.shiftLeft_add_eq_or_of_lt y.isLt, Nat.shiftLeft_eq]

theorem toNat_bit (b : Bool) : (bit b).toNat = b.toNat := by cases b <;> rfl

theorem sethiValue_toNat (imm22 : BitVec 22) : (sethiValue imm22).toNat = imm22.toNat * 2 ^ 10 := by
  have h := toNat_append_add imm22 0#10
  simpa [sethiValue] using h

theorem wordOfBytes_toNat (b0 b1 b2 b3 : Byte) :
    (wordOfBytes b0 b1 b2 b3).toNat = b0.toNat * 2 ^ 24 + b1.toNat * 2 ^ 16 + b2.toNat * 2 ^ 8 + b3.toNat := by
  have e : (wordOfBytes b0 b1 b2 b3).toNat = (b0 ++ b1 ++ b2 ++ b3 : BitVec (8 + 8 + 8 + 8)).toNat := rfl
  rw [e]
  simp only [toNat_append_add]
  omega

/-- The word at an address is the word of its four bytes. -/
theorem State.wordAt_eq (s : State) (a : Word) :
    s.wordAt a = wordOfBytes (s.byteAt a) (s.byteAt (a + 1)) (s.byteAt (a + 2)) (s.byteAt (a + 3)) := rfl

theorem State.halfAt_toNat (s : State) (a : Word) : (s.halfAt a).toNat = (s.byteAt a).toNat * 2 ^ 8 + (s.byteAt (a + 1)).toNat :=
  toNat_append_add (s.byteAt a) (s.byteAt (a + 1))

theorem State.tbrWord_toNat (s : State) : s.tbrWord.toNat = s.tbr.tba.toNat * 2 ^ 12 + s.tbr.tt.toNat * 2 ^ 4 := by
  have e : s.tbrWord.toNat = (s.tbr.tba ++ s.tbr.tt ++ 0#4 : BitVec (20 + 8 + 4)).toNat := rfl
  rw [e]
  simp only [toNat_append_add]
  simp
  omega

theorem State.psrWord_toNat (s : State) : s.psrWord.toNat =
    s.cfg.psrImpl.toNat * 2 ^ 28 + s.cfg.psrVer.toNat * 2 ^ 24 + s.psr.icc.n.toNat * 2 ^ 23 + s.psr.icc.z.toNat * 2 ^ 22 +
      s.psr.icc.v.toNat * 2 ^ 21 + s.psr.icc.c.toNat * 2 ^ 20 + s.psr.pil.toNat * 2 ^ 8 + s.psr.s.toNat * 2 ^ 7 +
      s.psr.ps.toNat * 2 ^ 6 + s.psr.et.toNat * 2 ^ 5 + s.psr.cwp.toNat := by
  have e : s.psrWord.toNat = (s.cfg.psrImpl ++ s.cfg.psrVer ++ bit s.psr.icc.n ++ bit s.psr.icc.z ++ bit s.psr.icc.v ++
      bit s.psr.icc.c ++ 0#8 ++ s.psr.pil ++ bit s.psr.s ++ bit s.psr.ps ++ bit s.psr.et ++ s.psr.cwp :
        BitVec (4 + 4 + 1 + 1 + 1 + 1 + 8 + 4 + 1 + 1 + 1 + 5)).toNat := rfl
  rw [e]
  simp only [toNat_append_add, toNat_bit]
  simp
  omega

theorem callOffset_eq (disp30 : BitVec 30) : callOffset disp30 = BitVec.ofInt 32 (disp30.toInt * 4) := by
  apply BitVec.eq_of_toNat_eq
  have h := toNat_append_add disp30 0#2
  have e : (callOffset disp30).toNat = (disp30 ++ 0#2 : BitVec (30 + 2)).toNat := rfl
  rw [e, h]
  simp only [BitVec.toNat_ofInt, BitVec.toInt_eq_toNat_cond]
  have := disp30.isLt
  simp
  split <;> omega

theorem branchOffset_eq (disp22 : BitVec 22) : branchOffset disp22 = BitVec.ofInt 32 (disp22.toInt * 4) := by
  have h : branchOffset disp22 = BitVec.ofInt 32 disp22.toInt * 4 := by
    simp only [branchOffset, BitVec.signExtend, BitVec.shiftLeft_eq_mul_twoPow]
    rfl
  rw [h]
  apply BitVec.eq_of_toInt_eq
  simp [BitVec.toInt_mul, BitVec.toInt_ofInt]

end Sys2Proof.Machine
end

