-- ==== Sys2Proof/Tests/Slice0.lean ====
section
/-! SUPPORT. The model's own tests: ill-formed terms that the check refuses, a written-out word for every constructor, single steps against the vectors of 95_test_vectors.md, and for every statement with hypotheses a state and operands that meet them. -/

namespace Sys2Proof.Tests

open Sys2Proof Sys2Proof.Machine

/-! ### Helpers -/

/-- A next state with a property. -/
def holds (r : Result) (p : State → Bool) : Bool :=
  match r with
  | .next t => p t
  | _ => false

def faults (r : Result) (f : Fault) : Bool :=
  match r with
  | .fault g => g == f
  | _ => false

theorem next_of_holds {r : Result} {p : State → Bool} (h : holds r p = true) : ∃ t, r = .next t ∧ p t = true :=
  match r, h with
  | .next t, h => ⟨t, rfl, h⟩

/-- The core after reset, with the registers g1 and g2 set. -/
def core (g1 g2 : Word) : State := (State.reset.setReg 1 g1).setReg 2 g2

/-- Traps enabled and TBA = 0x00004, as the vectors have it. -/
def enabled (s : State) : State := { s with psr := { s.psr with et := true }, tbr := { tba := 0x00004, tt := 0 } }

def user (s : State) : State := { s with psr := { s.psr with s := false } }

def v8 (s : State) : State := { s with cfg := { s.cfg with irqGating := .v8, baAnnul := .v8, implUnlisted := .v8 } }

/-- A port that answers the marked kinds of access to 0x1000 .. 0x1FFF with a Fault. -/
def denying (read write fetch : Bool) (s : State) : State :=
  { s with cfg := { s.cfg with port := [{ base := 0x1000, size := 0x1000, denyRead := read, denyWrite := write, denyFetch := fetch }] } }

def flags (n z v c : Bool) (s : State) : State := s.setIcc { n := n, z := z, v := v, c := c }

/-- The word runs as the next instruction, and the state it leaves has the property. -/
def runs (s : State) (w : Nat) (p : State → Bool) : Bool := holds (step (s.withFetchWord 32 w)) p

def icc (n z v c : Bool) : Icc := { n := n, z := z, v := v, c := c }

/-! ### Well-formedness -/

theorem test_rdasr_0_is_ill_formed : Instr.wellFormed (.rdasr 3 0 0) = false := by decide
theorem test_rdasr_in_the_stbar_row_is_ill_formed : Instr.wellFormed (.rdasr 0 15 0x1FFF) = false := by decide
theorem test_rdasr_15_beside_the_stbar_row : Instr.wellFormed (.rdasr 1 15 0) = true ∧ Instr.wellFormed (.rdasr 0 15 0x2000) = true := by decide
theorem test_wrasr_0_is_ill_formed : Instr.wellFormed (.wrasr 0 1 (.imm 0)) = false := by decide

/-! ### Decoding: words written out from the encodings of 30_encoding.md and 49_unlisted_v8.md -/

theorem test_decode_format2_1 :
    decode .illegal 0x7FFFFFFE = .instr (.call 0x3FFFFFFE) ∧
    decode .illegal 0x07048D15 = .instr (.sethi 3 0x48D15) ∧
    decode .illegal 0x00BFFFFE = .instr (.bn false 0x3FFFFE) ∧
    decode .illegal 0x22BFFFFE = .instr (.be true 0x3FFFFE) ∧
    decode .illegal 0x04BFFFFE = .instr (.ble false 0x3FFFFE) ∧
    decode .illegal 0x26BFFFFE = .instr (.bl true 0x3FFFFE) ∧
    decode .illegal 0x08BFFFFE = .instr (.bleu false 0x3FFFFE) ∧
    decode .illegal 0x2ABFFFFE = .instr (.bcs true 0x3FFFFE) ∧
    decode .illegal 0x0CBFFFFE = .instr (.bneg false 0x3FFFFE) ∧
    decode .illegal 0x2EBFFFFE = .instr (.bvs true 0x3FFFFE) ∧
    decode .illegal 0x10BFFFFE = .instr (.ba false 0x3FFFFE) ∧
    decode .illegal 0x32BFFFFE = .instr (.bne true 0x3FFFFE) := by decide

theorem test_decode_format2_2 :
    decode .illegal 0x14BFFFFE = .instr (.bg false 0x3FFFFE) ∧
    decode .illegal 0x36BFFFFE = .instr (.bge true 0x3FFFFE) ∧
    decode .illegal 0x18BFFFFE = .instr (.bgu false 0x3FFFFE) ∧
    decode .illegal 0x3ABFFFFE = .instr (.bcc true 0x3FFFFE) ∧
    decode .illegal 0x1CBFFFFE = .instr (.bpos false 0x3FFFFE) ∧
    decode .illegal 0x3EBFFFFE = .instr (.bvc true 0x3FFFFE) ∧
    decodeRow 0x06000005 = some (.unimp 3 5) ∧
    decodeRow 0x31800004 = some (.fbfcc true 8 4) ∧
    decodeRow 0x31C00004 = some (.cbccc true 8 4) := by decide

theorem test_decode_arith_1 :
    decode .illegal 0x86087FFB = .instr (.and 3 1 (.imm 0x1FFB)) ∧
    decode .illegal 0x86884002 = .instr (.andcc 3 1 (.reg 0 2)) ∧
    decode .illegal 0x86107FFB = .instr (.or 3 1 (.imm 0x1FFB)) ∧
    decode .illegal 0x86904002 = .instr (.orcc 3 1 (.reg 0 2)) ∧
    decode .illegal 0x86187FFB = .instr (.xor 3 1 (.imm 0x1FFB)) ∧
    decode .illegal 0x86984002 = .instr (.xorcc 3 1 (.reg 0 2)) ∧
    decode .illegal 0x86287FFB = .instr (.andn 3 1 (.imm 0x1FFB)) ∧
    decode .illegal 0x86A84002 = .instr (.andncc 3 1 (.reg 0 2)) ∧
    decode .illegal 0x86307FFB = .instr (.orn 3 1 (.imm 0x1FFB)) ∧
    decode .illegal 0x86B04002 = .instr (.orncc 3 1 (.reg 0 2)) ∧
    decode .illegal 0x86387FFB = .instr (.xnor 3 1 (.imm 0x1FFB)) ∧
    decode .illegal 0x86B84002 = .instr (.xnorcc 3 1 (.reg 0 2)) := by decide

theorem test_decode_arith_2 :
    decode .illegal 0x86007FFB = .instr (.add 3 1 (.imm 0x1FFB)) ∧
    decode .illegal 0x86804002 = .instr (.addcc 3 1 (.reg 0 2)) ∧
    decode .illegal 0x86207FFB = .instr (.sub 3 1 (.imm 0x1FFB)) ∧
    decode .illegal 0x86A04002 = .instr (.subcc 3 1 (.reg 0 2)) ∧
    decode .illegal 0x87287FFB = .instr (.sll 3 1 (.imm 0x1FFB)) ∧
    decode .illegal 0x87304002 = .instr (.srl 3 1 (.reg 0 2)) ∧
    decode .illegal 0x87387FFB = .instr (.sra 3 1 (.imm 0x1FFB)) ∧
    decode .illegal 0x86504002 = .instr (.umul 3 1 (.reg 0 2)) ∧
    decode .illegal 0x86D07FFB = .instr (.umulcc 3 1 (.imm 0x1FFB)) ∧
    decode .illegal 0x86584002 = .instr (.smul 3 1 (.reg 0 2)) ∧
    decode .illegal 0x86D87FFB = .instr (.smulcc 3 1 (.imm 0x1FFB)) ∧
    decode .illegal 0x86704002 = .instr (.udiv 3 1 (.reg 0 2)) := by decide

theorem test_decode_arith_3 :
    decode .illegal 0x86F07FFB = .instr (.udivcc 3 1 (.imm 0x1FFB)) ∧
    decode .illegal 0x86784002 = .instr (.sdiv 3 1 (.reg 0 2)) ∧
    decode .illegal 0x86F87FFB = .instr (.sdivcc 3 1 (.imm 0x1FFB)) ∧
    decode .illegal 0x87204002 = .instr (.mulscc 3 1 (.reg 0 2)) ∧
    decode .illegal 0x87C04002 = .instr (.jmpl 3 1 (.reg 0 2)) ∧
    decode .illegal 0x87C87FFB = .instr (.rett 3 1 (.imm 0x1FFB)) ∧
    decode .illegal 0x81D06005 = .instr (.tn false 1 (.imm 5)) ∧
    decode .illegal 0x83D06005 = .instr (.te false 1 (.imm 5)) ∧
    decode .illegal 0x85D06005 = .instr (.tle false 1 (.imm 5)) ∧
    decode .illegal 0x87D06005 = .instr (.tl false 1 (.imm 5)) ∧
    decode .illegal 0x89D06005 = .instr (.tleu false 1 (.imm 5)) ∧
    decode .illegal 0x8BD06005 = .instr (.tcs false 1 (.imm 5)) := by decide

theorem test_decode_arith_4 :
    decode .illegal 0x8DD06005 = .instr (.tneg false 1 (.imm 5)) ∧
    decode .illegal 0x8FD06005 = .instr (.tvs false 1 (.imm 5)) ∧
    decode .illegal 0x91D06005 = .instr (.ta false 1 (.imm 5)) ∧
    decode .illegal 0x93D06005 = .instr (.tne false 1 (.imm 5)) ∧
    decode .illegal 0x95D06005 = .instr (.tg false 1 (.imm 5)) ∧
    decode .illegal 0x97D06005 = .instr (.tge false 1 (.imm 5)) ∧
    decode .illegal 0x99D06005 = .instr (.tgu false 1 (.imm 5)) ∧
    decode .illegal 0x9BD06005 = .instr (.tcc false 1 (.imm 5)) ∧
    decode .illegal 0x9DD06005 = .instr (.tpos false 1 (.imm 5)) ∧
    decode .illegal 0x9FD06005 = .instr (.tvc false 1 (.imm 5)) ∧
    decode .illegal 0x87E04002 = .instr (.save 3 1 (.reg 0 2)) ∧
    decode .illegal 0x87E87FFB = .instr (.restore 3 1 (.imm 0x1FFB)) := by decide

theorem test_decode_arith_5 :
    decode .illegal 0x87400000 = .instr (.rdy 3 0) ∧
    decode .v8 0x8143C000 = .instr (.stbar 0) ∧
    decode .illegal 0x87444000 = .instr (.rdasr 3 17 0) ∧
    decode .illegal 0x87480000 = .instr (.rdpsr 3 0 0) ∧
    decode .illegal 0x87500000 = .instr (.rdwim 3 0 0) ∧
    decode .illegal 0x87580000 = .instr (.rdtbr 3 0 0) ∧
    decode .illegal 0x81804002 = .instr (.wry 1 (.reg 0 2)) ∧
    decode .illegal 0xA3804002 = .instr (.wrasr 17 1 (.reg 0 2)) ∧
    decode .illegal 0x87884002 = .instr (.wrpsr 3 1 (.reg 0 2)) ∧
    decode .illegal 0x87907FFB = .instr (.wrwim 3 1 (.imm 0x1FFB)) ∧
    decode .illegal 0x87984002 = .instr (.wrtbr 3 1 (.reg 0 2)) ∧
    decode .v8 0x86407FFB = .instr (.addx 3 1 (.imm 0x1FFB)) := by decide

theorem test_decode_arith_6 :
    decode .v8 0x86C04002 = .instr (.addxcc 3 1 (.reg 0 2)) ∧
    decode .v8 0x86607FFB = .instr (.subx 3 1 (.imm 0x1FFB)) ∧
    decode .v8 0x86E04002 = .instr (.subxcc 3 1 (.reg 0 2)) ∧
    decode .v8 0x87007FFB = .instr (.taddcc 3 1 (.imm 0x1FFB)) ∧
    decode .v8 0x87084002 = .instr (.tsubcc 3 1 (.reg 0 2)) ∧
    decode .v8 0x87107FFB = .instr (.taddcctv 3 1 (.imm 0x1FFB)) ∧
    decode .v8 0x87184002 = .instr (.tsubcctv 3 1 (.reg 0 2)) ∧
    decode .v8 0x87D87FFB = .instr (.flush 3 1 (.imm 0x1FFB)) ∧
    decodeRow 0x87A04822 = some (.fpop1 3 1 0x41 2) ∧
    decodeRow 0x87A84822 = some (.fpop2 3 1 0x41 2) ∧
    decodeRow 0x87B04822 = some (.cpop1 3 1 0x41 2) ∧
    decodeRow 0x87B84822 = some (.cpop2 3 1 0x41 2) := by decide

theorem test_decode_memory_1 :
    decode .illegal 0xC6007FFB = .instr (.ld 3 1 (.imm 0x1FFB)) ∧
    decode .illegal 0xC6084002 = .instr (.ldub 3 1 (.reg 0 2)) ∧
    decode .illegal 0xC6487FFB = .instr (.ldsb 3 1 (.imm 0x1FFB)) ∧
    decode .illegal 0xC6184002 = .instr (.ldd 3 1 (.reg 0 2)) ∧
    decode .illegal 0xC6107FFB = .instr (.lduh 3 1 (.imm 0x1FFB)) ∧
    decode .illegal 0xC6504002 = .instr (.ldsh 3 1 (.reg 0 2)) ∧
    decode .illegal 0xC6207FFB = .instr (.st 3 1 (.imm 0x1FFB)) ∧
    decode .illegal 0xC6284002 = .instr (.stb 3 1 (.reg 0 2)) ∧
    decode .illegal 0xC6307FFB = .instr (.sth 3 1 (.imm 0x1FFB)) ∧
    decode .illegal 0xC6384002 = .instr (.std 3 1 (.reg 0 2)) ∧
    decode .v8 0xC6684002 = .instr (.ldstub 3 1 (.reg 0 2)) ∧
    decode .v8 0xC6787FFB = .instr (.swap 3 1 (.imm 0x1FFB)) := by decide

theorem test_decode_memory_2 :
    decodeRow 0xC6804002 = some (.lda 3 1 (.reg 0 2)) ∧
    decodeRow 0xC6887FFB = some (.lduba 3 1 (.imm 0x1FFB)) ∧
    decodeRow 0xC6904002 = some (.lduha 3 1 (.reg 0 2)) ∧
    decodeRow 0xC6987FFB = some (.ldda 3 1 (.imm 0x1FFB)) ∧
    decodeRow 0xC6A04002 = some (.sta 3 1 (.reg 0 2)) ∧
    decodeRow 0xC6A87FFB = some (.stba 3 1 (.imm 0x1FFB)) ∧
    decodeRow 0xC6B04002 = some (.stha 3 1 (.reg 0 2)) ∧
    decodeRow 0xC6B87FFB = some (.stda 3 1 (.imm 0x1FFB)) ∧
    decodeRow 0xC6C84002 = some (.ldsba 3 1 (.reg 0 2)) ∧
    decodeRow 0xC6D07FFB = some (.ldsha 3 1 (.imm 0x1FFB)) ∧
    decodeRow 0xC6E84002 = some (.ldstuba 3 1 (.reg 0 2)) ∧
    decodeRow 0xC6F87FFB = some (.swapa 3 1 (.imm 0x1FFB)) := by decide

theorem test_decode_memory_3 :
    decodeRow 0xC7004002 = some (.ldf 3 1 (.reg 0 2)) ∧
    decodeRow 0xC7087FFB = some (.ldfsr 3 1 (.imm 0x1FFB)) ∧
    decodeRow 0xC7184002 = some (.lddf 3 1 (.reg 0 2)) ∧
    decodeRow 0xC7207FFB = some (.stf 3 1 (.imm 0x1FFB)) ∧
    decodeRow 0xC7284002 = some (.stfsr 3 1 (.reg 0 2)) ∧
    decodeRow 0xC7307FFB = some (.stdfq 3 1 (.imm 0x1FFB)) ∧
    decodeRow 0xC7384002 = some (.stdf 3 1 (.reg 0 2)) ∧
    decodeRow 0xC7807FFB = some (.ldc 3 1 (.imm 0x1FFB)) ∧
    decodeRow 0xC7884002 = some (.ldcsr 3 1 (.reg 0 2)) ∧
    decodeRow 0xC7987FFB = some (.lddc 3 1 (.imm 0x1FFB)) ∧
    decodeRow 0xC7A04002 = some (.stc 3 1 (.reg 0 2)) ∧
    decodeRow 0xC7A87FFB = some (.stcsr 3 1 (.imm 0x1FFB)) := by decide

theorem test_decode_memory_4 :
    decodeRow 0xC7B04002 = some (.stdcq 3 1 (.reg 0 2)) ∧
    decodeRow 0xC7B87FFB = some (.stdc 3 1 (.imm 0x1FFB)) := by decide

theorem test_decode_reserved :
    decode .v8 0x00400000 = .invalid (.unmappedOp2 1 0 0) ∧ decode .v8 0x80480000 = .invalid (.unmappedArith 0x09 0 0 (.reg 0 0)) ∧
    decode .v8 0xC0401FE1 = .invalid (.unmappedMemory 0x08 0 0 (.reg 0xFF 1)) ∧ decodeTableWord 32 0x00400000 = none := by decide

/-- 95_test_vectors.md S1 and 30_encoding.md R111; 49_unlisted_v8.md R361, R366, R368, R372. -/
theorem test_decode_unlisted_by_default :
    decode .illegal 0 = .invalid (.unmappedOp2 0 0 0) ∧ decode .illegal 0x86404002 = .invalid (.unmappedArith 0x08 3 1 (.reg 0 2)) ∧
    decode .illegal 0xC6686000 = .invalid (.unmappedMemory 0x0D 3 1 (.imm 0)) ∧ decode .illegal 0x8143C000 = .instr (.rdasr 0 15 0) := by decide

theorem test_decode_invalid_under_both :
    decode .v8 0 = .invalid (.unmappedOp2 0 0 0) ∧ decode .v8 0xC6804160 = .invalid (.unmappedMemory 0x10 3 1 (.reg 0x0B 0)) ∧
    decode .v8 0x85A00821 = .invalid (.unmappedArith 0x34 2 0 (.reg 0x41 1)) ∧ decode .v8 0x11800004 = .invalid (.unmappedOp2 6 8 4) := by decide

theorem test_decode_bytes_are_big_endian :
    decodeBytes .illegal [0x87, 0x28, 0x60, 0x04, 0xFF] = (.instr (.sll 3 1 (.imm 4)), [0xFF]) ∧
    decodeBytes .illegal [0x87, 0x28, 0x60] = (.invalid .truncated, [0x87, 0x28, 0x60]) := by decide

theorem test_decode_selectors :
    decode .illegal 0x81444000 = .instr (.rdasr 0 17 0) ∧ decode .illegal 0x8143E000 = .instr (.rdasr 0 15 0x2000) ∧
    decode .illegal 0x8343C000 = .instr (.rdasr 1 15 0) ∧ decode .illegal 0x81804002 = .instr (.wry 1 (.reg 0 2)) := by decide

/-! ### Single steps against 95_test_vectors.md -/

/-- S2. -/
theorem test_sethi : runs (core 0 0) 0x0500000C (fun t => t.reg 2 == 0x3000 && t.pc == 4 && t.npc == 8 && t.npc2 == 12) = true := by decide

/-- 2.2 row 2 of add. -/
theorem test_add_wraps : runs (flags true true true true (core 1 0xFFFFFFFF)) 0x86004002 (fun t => t.reg 3 == 0 && t.psr.icc == icc true true true true) = true := by decide

/-- 2.2, immediate forms. -/
theorem test_add_negative_immediate : runs (core 5 0) 0x86007FFF (fun t => t.reg 3 == 4) = true := by decide

/-- 2.2. -/
theorem test_addcc_overflow : runs (core 0x7FFFFFFF 1) 0x86804002 (fun t => t.reg 3 == 0x80000000 && t.psr.icc == icc true false true false) = true := by decide

/-- 2.2. -/
theorem test_sub : runs (core 5 7) 0x86204002 (fun t => t.reg 3 == 0xFFFFFFFE) = true := by decide

/-- S3. -/
theorem test_subcc_borrow : runs (core 0x7FFFFFFF 0xFFFFFFFF) 0x86A04002 (fun t => t.reg 3 == 0x80000000 && t.psr.icc == icc true false true true) = true := by decide

/-- 2.2. -/
theorem test_and : runs (core 0x12345678 0x0F0F0F0F) 0x86084002 (fun t => t.reg 3 == 0x02040608) = true := by decide

/-- 2.2. -/
theorem test_andcc : runs (core 0x80000000 1) 0x86884002 (fun t => t.reg 3 == 0 && t.psr.icc == icc false true false false) = true := by decide

/-- 2.2, immediate forms. -/
theorem test_or_extends : runs (core 1 0) 0x86107000 (fun t => t.reg 3 == 0xFFFFF001) = true := by decide

/-- 2.2. -/
theorem test_orcc : runs (core 0x80000000 1) 0x86904002 (fun t => t.reg 3 == 0x80000001 && t.psr.icc == icc true false false false) = true := by decide

/-- 2.2. -/
theorem test_xor : runs (core 0x12345678 0x0F0F0F0F) 0x86184002 (fun t => t.reg 3 == 0x1D3B5977) = true := by decide

/-- 2.2. -/
theorem test_xorcc : runs (core 5 7) 0x86984002 (fun t => t.reg 3 == 2 && t.psr.icc == icc false false false false) = true := by decide

/-- 2.2. -/
theorem test_andn : runs (core 0x12345678 0x0F0F0F0F) 0x86284002 (fun t => t.reg 3 == 0x10305070) = true := by decide

/-- 2.2. -/
theorem test_andncc : runs (core 0x80000000 1) 0x86A84002 (fun t => t.reg 3 == 0x80000000 && t.psr.icc == icc true false false false) = true := by decide

/-- 2.2. -/
theorem test_orn : runs (core 0x12345678 0x0F0F0F0F) 0x86304002 (fun t => t.reg 3 == 0xF2F4F6F8) = true := by decide

/-- 2.2. -/
theorem test_orncc : runs (core 1 0xFFFFFFFF) 0x86B04002 (fun t => t.reg 3 == 1 && t.psr.icc == icc false false false false) = true := by decide

/-- 2.2. -/
theorem test_xnor : runs (core 0x12345678 0x0F0F0F0F) 0x86384002 (fun t => t.reg 3 == 0xE2C4A688) = true := by decide

/-- 2.2. -/
theorem test_xnorcc : runs (core 5 7) 0x86B84002 (fun t => t.reg 3 == 0xFFFFFFFD && t.psr.icc == icc true false false false) = true := by decide

/-- 2.3. -/
theorem test_sll_masks_the_count : runs (core 0x80000001 0xFFFFFFE4) 0x87284002 (fun t => t.reg 3 == 0x10) = true := by decide

/-- 2.3. -/
theorem test_srl : runs (core 0x80000001 0x1F) 0x87304002 (fun t => t.reg 3 == 1) = true := by decide

/-- 2.3. -/
theorem test_sra : runs (core 0x80000001 0xFFFFFFE4) 0x87384002 (fun t => t.reg 3 == 0xF8000000) = true := by decide

/-- 2.4. -/
theorem test_umul : runs (core 7 0xFFFFFFFD) 0x86504002 (fun t => t.reg 3 == 0xFFFFFFEB && t.y == 6) = true := by decide

/-- 2.4. -/
theorem test_umulcc : runs (core 0x10000 0x10000) 0x86D04002 (fun t => t.reg 3 == 0 && t.y == 1 && t.psr.icc == icc false true false false) = true := by decide

/-- 2.4. -/
theorem test_smul : runs (core 7 0xFFFFFFFD) 0x86584002 (fun t => t.reg 3 == 0xFFFFFFEB && t.y == 0xFFFFFFFF) = true := by decide

/-- 2.4. -/
theorem test_smulcc : runs (core 0x10000 0x8000) 0x86D84002 (fun t => t.reg 3 == 0x80000000 && t.y == 0 && t.psr.icc == icc true false false false) = true := by decide

/-- 2.4. -/
theorem test_udiv : runs ((core 0 2).setY 1) 0x86704002 (fun t => t.reg 3 == 0x80000000 && t.y == 1) = true := by decide

/-- 2.4, at address 0. -/
theorem test_udiv_by_zero : runs (enabled (core 5 0)) 0x86704002 (fun t => t.tbr.tt == 0x2A && t.pc == 0x42A0 && t.reg 17 == 0 && t.reg 18 == 4 && t.reg 3 == 0) = true := by decide

/-- 2.4. -/
theorem test_udivcc_overflow : runs ((core 0 1).setY 1) 0x86F04002 (fun t => t.reg 3 == 0xFFFFFFFF && t.psr.icc == icc true false true false) = true := by decide

/-- 2.4. -/
theorem test_sdiv_truncates : runs ((core 0xFFFFFF9C 7).setY 0xFFFFFFFF) 0x86784002 (fun t => t.reg 3 == 0xFFFFFFF2) = true := by decide

/-- 2.4. -/
theorem test_sdivcc_overflow : runs ((core 0x80000000 0xFFFFFFFF).setY 0xFFFFFFFF) 0x86F84002 (fun t => t.reg 3 == 0x7FFFFFFF && t.psr.icc == icc false false true false) = true := by decide

/-- 2.4, row 5. -/
theorem test_mulscc : runs (flags true false true false ((core 0xFFFFFFFE 0xFFFFFFFF).setY 3)) 0x87204002 (fun t => t.reg 3 == 0x7FFFFFFE && t.y == 1 && t.psr.icc == icc false false false true) = true := by decide

/-- 2.5. -/
theorem test_ld : runs (((core 0x1000 0xAAAAAAAA).putWord 0x1000 0x81828384).putWord 0x1004 0xF5F6F7F8) 0xC4006004 (fun t => t.reg 2 == 0xF5F6F7F8) = true := by decide

/-- 2.5. -/
theorem test_ld_misaligned_with_traps_disabled : runs (((core 0x1000 0xAAAAAAAA).putWord 0x1000 0x81828384).putWord 0x1004 0xF5F6F7F8) 0xC4006002 (fun t => t.reg 2 == 0xAAAAAAAA && t.status == .error && t.pending == BitVec.twoPow 256 7) = true := by decide

/-- 2.5. -/
theorem test_ldub : runs (((core 0x1000 0xAAAAAAAA).putWord 0x1000 0x81828384).putWord 0x1004 0xF5F6F7F8) 0xC4086007 (fun t => t.reg 2 == 0xF8) = true := by decide

/-- 2.5. -/
theorem test_ldsb : runs (((core 0x1000 0xAAAAAAAA).putWord 0x1000 0x81828384).putWord 0x1004 0xF5F6F7F8) 0xC4486003 (fun t => t.reg 2 == 0xFFFFFF84) = true := by decide

/-- 2.5. -/
theorem test_lduh : runs (((core 0x1000 0xAAAAAAAA).putWord 0x1000 0x81828384).putWord 0x1004 0xF5F6F7F8) 0xC4106006 (fun t => t.reg 2 == 0xF7F8) = true := by decide

/-- 2.5. -/
theorem test_ldsh : runs (((core 0x1000 0xAAAAAAAA).putWord 0x1000 0x81828384).putWord 0x1004 0xF5F6F7F8) 0xC4506002 (fun t => t.reg 2 == 0xFFFF8384) = true := by decide

/-- 2.5. -/
theorem test_ldd_to_r0 : runs (((core 0x1000 0xAAAAAAAA).putWord 0x1000 0x81828384).putWord 0x1004 0xF5F6F7F8) 0xC0186000 (fun t => t.reg 0 == 0 && t.reg 1 == 0xF5F6F7F8) = true := by decide

/-- 2.5. -/
theorem test_ldd_odd_rd_before_alignment : runs (((core 0x1000 0xAAAAAAAA).putWord 0x1000 0x81828384).putWord 0x1004 0xF5F6F7F8) 0xC6186004 (fun t => t.status == .error && t.pending == BitVec.twoPow 256 2) = true := by decide

/-- 2.6. -/
theorem test_st : runs ((core 0x1000 0x11223344).setReg 3 0x55667788) 0xC4206004 (fun t => t.wordAt 0x1000 == 0 && t.byteAt 0x1004 == 0x11 && t.byteAt 0x1007 == 0x44) = true := by decide

/-- 2.6. -/
theorem test_stb : runs ((core 0x1000 0x11223344).setReg 3 0x55667788) 0xC4286005 (fun t => t.wordAt 0x1004 == 0x00440000) = true := by decide

/-- 2.6. -/
theorem test_sth : runs ((core 0x1000 0x11223344).setReg 3 0x55667788) 0xC4306002 (fun t => t.wordAt 0x1000 == 0x3344) = true := by decide

/-- 2.6. -/
theorem test_std : runs ((core 0x1000 0x11223344).setReg 3 0x55667788) 0xC4386000 (fun t => t.wordAt 0x1000 == 0x11223344 && t.wordAt 0x1004 == 0x55667788) = true := by decide

/-- 2.8, at address 0. -/
theorem test_bne_annulled : runs (flags false true false false (core 0 0)) 0x32800004 (fun t => t.pc == 8 && t.npc == 12 && t.npc2 == 16 && !t.annul) = true := by decide

/-- 2.8, at address 0. -/
theorem test_bne_taken : runs (core 0 0) 0x32800004 (fun t => t.pc == 4 && t.npc == 16 && t.npc2 == 20) = true := by decide

/-- 2.8, at address 0. -/
theorem test_ba_annul_by_the_document : runs (core 0 0) 0x30800004 (fun t => t.pc == 4 && t.npc == 16) = true := by decide

/-- 2.8, at address 0. -/
theorem test_ba_annul_by_v8 : runs (v8 (core 0 0)) 0x30800004 (fun t => t.pc == 16 && t.npc == 20) = true := by decide

/-- 2.9. -/
theorem test_ta : runs (enabled (core 0x7E 0x105)) 0x91D04002 (fun t => t.pc == 0x4830 && t.npc == 0x4834 && t.tbr.tt == 0x83 && t.psr.ps && !t.psr.et && t.psr.cwp == 7) = true := by decide

/-- 2.9. -/
theorem test_tne_false : runs (flags false true false false (enabled (core 0 0))) 0x93D02005 (fun t => t.pc == 4 && t.psr.et) = true := by decide

/-- 2.10, at address 0. -/
theorem test_call : runs (core 0 0) 0x40000010 (fun t => t.reg 15 == 0 && t.pc == 4 && t.npc == 0x40) = true := by decide

/-- 2.10, at address 0. -/
theorem test_jmpl_links_over_its_base : runs (core 0x2000 0) 0x83C06000 (fun t => t.reg 1 == 0 && t.npc == 0x2000) = true := by decide

/-- 2.10. -/
theorem test_rett : runs ((({ core 0 0 with psr := { (core 0 0).psr with cwp := 7 } } : State)).setReg 18 0x2004) 0x81CCA000 (fun t => t.psr.cwp == 0 && !t.psr.s && t.psr.et && t.pc == 4 && t.npc == 0x2004) = true := by decide

/-- 2.10. -/
theorem test_rett_window_before_alignment : runs (((({ core 0 0 with psr := { (core 0 0).psr with cwp := 7 } } : State)).setReg 18 0x2004).setWim 1) 0x81CCA000 (fun t => t.status == .error && t.pending == BitVec.twoPow 256 6 && t.psr.cwp == 7) = true := by decide

/-- 2.11. -/
theorem test_save : runs (((core 0 0).setReg 14 0x8000).setReg 8 0x11) 0x9DE3BFA0 (fun t => t.psr.cwp == 7 && t.reg 14 == 0x7FA0 && t.reg 30 == 0x8000 && t.reg 24 == 0x11) = true := by decide

/-- 2.11. -/
theorem test_save_overflow : runs (enabled ((core 0 0).setWim 0x80)) 0x9DE3BFA0 (fun t => t.pc == 0x4050 && t.psr.cwp == 7 && t.reg 18 == 4) = true := by decide

/-- 2.11. -/
theorem test_restore_underflow : runs (enabled (({ core 0 0 with psr := { (core 0 0).psr with cwp := 7 } } : State).setWim 1)) 0x81E80000 (fun t => t.pc == 0x4060 && t.psr.cwp == 6) = true := by decide

/-- 2.12. -/
theorem test_rdy_in_user_mode : runs (user ((core 0 0).setY 0x12345678)) 0x87400000 (fun t => t.reg 3 == 0x12345678) = true := by decide

/-- 2.12. -/
theorem test_rdpsr : runs ((core 0 0).setPsr (psrOfWord 0x009005C3)) 0x87480000 (fun t => t.reg 3 == 0x009005C3) = true := by decide

/-- 2.12. -/
theorem test_rdwim : runs ((core 0 0).setWim 0x82) 0x87500000 (fun t => t.reg 3 == 0x82) = true := by decide

/-- 2.12. -/
theorem test_rdtbr : runs ({ core 0 0 with tbr := { tba := 0x12345, tt := 0x83 } }) 0x87580000 (fun t => t.reg 3 == 0x12345830) = true := by decide

/-- 2.12. -/
theorem test_rdasr_in_user_mode : runs (user (enabled (core 0 0))) 0x87444000 (fun t => t.pc == 0x4030 && t.psr.s && !t.psr.ps) = true := by decide

/-- 2.12. -/
theorem test_wrasr_in_supervisor_mode : runs (enabled (core 0 0)) 0xA3804002 (fun t => t.pc == 0x4020) = true := by decide

/-- 2.12. -/
theorem test_stbar_by_v8 : runs (v8 (user (core 0 0))) 0x8143C000 (fun t => t.pc == 4) = true := by decide

/-- 2.12. -/
theorem test_wry : runs (user (core 0xFF00FF00 0x0FF00FF0)) 0x81804002 (fun t => t.y == 0xF0F0F0F0) = true := by decide

/-- 2.12. -/
theorem test_wrpsr : runs (core 0xFFFFFFE7 0) 0x81884002 (fun t => t.psrWord == 0x00F00FE7) = true := by decide

/-- 2.12. -/
theorem test_wrpsr_window_out_of_range : runs (core 0xA8 0) 0x81884002 (fun t => t.psrWord == 0x80 && t.status == .error && t.pending == BitVec.twoPow 256 2) = true := by decide

/-- 2.12. -/
theorem test_wrwim : runs (core 0xFFFFFFFF 0) 0x81904002 (fun t => t.wim == 0xFF) = true := by decide

/-- 2.12. -/
theorem test_wrtbr : runs ({ core 0xFFFFFFFF 0 with tbr := { tba := 0, tt := 0x2A } }) 0x81984002 (fun t => t.tbrWord == 0xFFFFF2A0) = true := by decide

/-- 2.14. -/
theorem test_addx_is_illegal_by_default : runs (enabled (core 0 0)) 0x86404002 (fun t => t.pc == 0x4020 && t.psr.cwp == 7) = true := by decide

/-- 49_unlisted_v8.md R362, by hand. -/
theorem test_addxcc_by_v8 : runs (flags false false false true (v8 (core 0xFFFFFFFF 0))) 0x86C04002 (fun t => t.reg 3 == 0 && t.psr.icc == icc false true false true) = true := by decide

/-- 49_unlisted_v8.md R364, by hand. -/
theorem test_subxcc_by_v8 : runs (flags false false false true (v8 (core 0 0))) 0x86E04002 (fun t => t.reg 3 == 0xFFFFFFFF && t.psr.icc == icc true false false true) = true := by decide

/-- 49_unlisted_v8.md R371, by hand. -/
theorem test_taddcctv_traps_by_v8 : runs (enabled (v8 (core 1 0))) 0x87104002 (fun t => t.pc == 0x40A0 && t.reg 3 == 0) = true := by decide

/-- 49_unlisted_v8.md R367, by hand. -/
theorem test_ldstub_by_v8 : runs (v8 ((core 0x1000 0).putWord 0x1000 0x12000000)) 0xC4686000 (fun t => t.reg 2 == 0x12 && t.wordAt 0x1000 == 0xFF000000) = true := by decide

/-- 49_unlisted_v8.md R373, by hand. -/
theorem test_swap_by_v8 : runs (v8 ((core 0x1000 0xAABBCCDD).putWord 0x1000 0x12345678)) 0xC4786000 (fun t => t.reg 2 == 0x12345678 && t.wordAt 0x1000 == 0xAABBCCDD) = true := by decide

/-- 2.13. -/
theorem test_unimp_before_an_interrupt : runs (enabled ((core 0 0).raise (.interruptLevel 15))) 0 (fun t => t.pc == 0x4020 && t.pending == BitVec.twoPow 256 0x1F) = true := by decide

/-- 2.13, at address 0. -/
theorem test_interrupt_with_traps_disabled : runs (({ core 0 0 with tbr := { tba := 0x00004, tt := 0 } } : State).raise (.interruptLevel 3)) 0x82006001 (fun t => t.reg 1 == 1 && t.pc == 0x4130 && t.reg 17 == 0 && t.reg 18 == 4 && t.psr.ps) = true := by decide

/-- 2.13. -/
theorem test_interrupt_masked_by_v8 : runs (v8 ((core 0 0).raise (.interruptLevel 3))) 0x82006001 (fun t => t.reg 1 == 1 && t.pc == 4 && t.pending == BitVec.twoPow 256 0x13) = true := by decide

/-- S6. -/
theorem test_priority : runs (enabled (((core 0 0).raise .memAddressNotAligned).raise .windowOverflow)) 0x01000000 (fun t => t.pc == 0x4050 && t.tbr.tt == 5 && t.pending == BitVec.twoPow 256 7) = true := by decide

/-- 2.13, at address 0. -/
theorem test_reset_wins : runs (enabled ((((core 9 0).setCwp 3).raise (.trapInstruction 5)).raise .reset)) 0x01000000 (fun t => t.pc == 0 && t.npc == 4 && t.pending == 0 && t.psr.cwp == 3 && t.psr.et && t.reg 1 == 9 && t.tbr.tt == 0) = true := by decide

/-- 20_memory.md R68. -/
theorem test_hard_fault_is_no_trap : faults (step ((denying true false false (core 0x1000 0)).withFetchWord 32 0xC4006000)) (.hardFault .read 0x1000 4) = true := by decide

/-- The latch after the host's fetch and decode (50_pipeline_controller.md R406; 30_encoding.md R107): Invalid by default, the instruction with IMPL_UNLISTED = v8. -/
theorem test_latch_of_addx :
    holds (andThen (callFetch ((core 0 0).withFetchWord 32 0x86404002)) callDecode) (fun t => t.dec == .invalid (.unmappedArith 0x08 3 1 (.reg 0 2))) = true ∧
    holds (andThen (callFetch ((v8 (core 0 0)).withFetchWord 32 0x86404002)) callDecode) (fun t => t.dec == .instr (.addx 3 1 (.reg 0 2))) = true := by
  decide

/-! ### For every statement with hypotheses, a state and operands that meet them -/

set_option maxRecDepth 8000

theorem witness_EncodeThenDecode_named : ∃ (i : Instr),
    i.wellFormed = true ∧ i.rowClass = .named :=
  ⟨.rdasr 0 15 0x2000, by decide⟩

theorem witness_EncodeThenDecode_mapped : ∃ (i : Instr) (u : Unlisted),
    i.wellFormed = true ∧ i.rowClass = .twelve ∧ u = .v8 :=
  ⟨.stbar 0x1FFF, .v8, by decide⟩

theorem witness_EncodeThenDecode_default : ∃ (i : Instr) (u : Unlisted), i.wellFormed = true ∧ i.rowClass = .twelve ∧ u = .illegal ∧
    ∀ low, i ≠ .stbar low :=
  ⟨.flush 0 1 (.imm 0), .illegal, by decide, by decide, rfl, fun _ h => by cases h⟩

theorem witness_EncodeThenDecode_unmapped : ∃ (i : Instr) (u : Unlisted),
    i.wellFormed = true ∧ i.rowClass = .unmapped ∧ u = .v8 :=
  ⟨.swapa 0 1 (.reg 11 0), .v8, by decide⟩

theorem witness_DecodeThenEncode : ∃ (u : Unlisted) (w : Word) (i : Instr),
    decode u w = .instr i ∧ decodeRow w = some i :=
  ⟨.illegal, 0x8143E000, .rdasr 0 15 0x2000, by decide⟩

theorem witness_DecodeThenEncode_stbar : ∃ (u : Unlisted) (w : Word) (i : Instr),
    u = .illegal ∧ decode u w = .instr i ∧ decodeRow w = some (.stbar 0x1FFF) :=
  ⟨.illegal, 0x8143DFFF, .rdasr 0 15 0x1FFF, by decide⟩

theorem witness_InvalidWordsExactly_format2 : ∃ (u : Unlisted) (w : Word) (c : InvalidRecord),
    decode u w = .invalid c ∧ fieldOp w = 0#2 :=
  ⟨.v8, 0x11800004, .unmappedOp2 6 8 4, by decide⟩

theorem witness_InvalidWordsExactly_arith : ∃ (u : Unlisted) (w : Word) (c : InvalidRecord) (src : Operand2),
    decode u w = .invalid c ∧ src = (if w.getLsbD 13 then .imm (w.extractLsb' 0 13) else .reg (w.extractLsb' 5 8) (w.extractLsb' 0 5)) ∧
      fieldOp w = 2#2 :=
  ⟨.illegal, 0x86407FFF, .unmappedArith 0x08 3 1 (.imm 0x1FFF), .imm 0x1FFF, by decide⟩

/-- The asi of lda [%g1] 0x0B, %g3 (49_unlisted_v8.md R368). -/
theorem witness_InvalidWordsExactly_memory : ∃ (u : Unlisted) (w : Word) (c : InvalidRecord) (src : Operand2),
    decode u w = .invalid c ∧ src = (if w.getLsbD 13 then .imm (w.extractLsb' 0 13) else .reg (w.extractLsb' 5 8) (w.extractLsb' 0 5)) ∧
      fieldOp w = 3#2 :=
  ⟨.v8, 0xC6804160, .unmappedMemory 0x10 3 1 (.reg 0x0B 0), .reg 0x0B 0, by decide⟩

theorem witness_UnmappedWordsRaiseByDefault : ∃ (w : Word) (s : State),
    s.cfg.implUnlisted = .illegal ∧ s.slot0 = w ∧ fieldOp w = 2#2 ∧ fieldOp3 w = 0x08#6 :=
  ⟨0x86404002, (core 0 0).withFetchWord 32 0x86404002, by decide⟩

theorem witness_StepRunsDecodedInstruction_instr : ∃ (s : State) (i : Instr),
    s.status = .normal ∧ s.stage = .boundary ∧ s.portFaults .fetch s.npc 4 = false ∧ decode s.cfg.implUnlisted s.slot0 = .instr i ∧ s.slot0 = s.wordAt s.pc ∧
      decodeBytes s.cfg.implUnlisted [s.byteAt s.pc, s.byteAt (s.pc + 1), s.byteAt (s.pc + 2), s.byteAt (s.pc + 3)] = (.instr i, []) :=
  ⟨(core 0 0).withFetchWord 32 0x86004002, .add 3 1 (.reg 0 2), by decide⟩

theorem witness_StepRunsDecodedInstruction_invalid : ∃ (s : State) (c : InvalidRecord),
    s.status = .normal ∧ s.stage = .boundary ∧ s.portFaults .fetch s.npc 4 = false ∧ decode s.cfg.implUnlisted s.slot0 = .invalid c :=
  ⟨(core 0 0).withFetchWord 32 0x00400000, .unmappedOp2 1 0 0, by decide⟩

/-- A state that is not the state after reset meets the invariant. -/
theorem test_invariant : State.Inv (enabled ((core 1 2).putByte 0x1000 7)) where
  sized := by decide
  wim := by decide
  pc := by decide
  npc := by decide
  npc2 := by decide
  next := by decide
  annul := by decide
  pending := fun _ h => by simp [enabled, core, State.reset, State.powerOn, State.putByte] at h
  bootEntry := by decide
  mem := by decide
  stage := by decide

theorem witness_StepKeepsInvariant : ∃ s t : State, s.Inv ∧ step s = .next t :=
  have h := next_of_holds (r := step (enabled ((core 1 2).putByte 0x1000 7))) (p := fun _ => true) (by decide)
  ⟨_, _, test_invariant, h.choose_spec.1⟩

theorem witness_SpecialRegisterWriters : ∃ (i : Instr) (s : State) (t : State), exec i s = .next t ∧ (true) = true ∧ i.writesIcc = false ∧ i.writesY = false ∧ i.writesWim = false ∧ i.writesTba = false ∧ i.writesPsr = false :=
  have h := next_of_holds (r := exec (.sethi 3 5) (core 0 0)) (p := fun t => true) (by decide)
  ⟨.sethi 3 5, core 0 0, h.choose, h.choose_spec.1, h.choose_spec.2, by decide⟩

theorem witness_MemoryAndGlobalWriters : ∃ (i : Instr) (s : State) (t : State), exec i s = .next t ∧ (true) = true ∧ i.writesMemory = false ∧ (7 : Reg).toNat < 8 ∧ (7 : Reg) ∉ i.destinations ∧ (0 : Reg) ∉ i.destinations :=
  have h := next_of_holds (r := exec (.ldd 2 0 (.imm 0)) (core 0 0)) (p := fun t => true) (by decide)
  ⟨.ldd 2 0 (.imm 0), core 0 0, h.choose, h.choose_spec.1, h.choose_spec.2, by decide⟩

theorem witness_CwpWriters_kept : ∃ (i : Instr) (s : State) (t : State), exec i s = .next t ∧ (t.psr.cwp == 0) = true ∧ s.sized = true ∧ i.writesCwp = false :=
  have h := next_of_holds (r := exec (.add 1 1 (.imm 1)) (core 0 0)) (p := fun t => t.psr.cwp == 0) (by decide)
  ⟨.add 1 1 (.imm 1), core 0 0, h.choose, h.choose_spec.1, h.choose_spec.2, by decide⟩

theorem witness_CwpWriters_trap : ∃ (i : Instr) (s : State) (t : State), exec i s = .next t ∧ (t.psr.cwp == 7) = true ∧ s.sized = true ∧ i.writesCwp = false :=
  have h := next_of_holds (r := exec (.ld 1 1 (.imm 0)) (enabled (core 1 0))) (p := fun t => t.psr.cwp == 7) (by decide)
  ⟨.ld 1 1 (.imm 0), enabled (core 1 0), h.choose, h.choose_spec.1, h.choose_spec.2, by decide⟩

theorem witness_PrivilegeBoundary_stays : ∃ s t : State, step s = .next t ∧ (!t.psr.s && t.pc == 4) = true ∧ s.status = .normal ∧ s.psr.s = false :=
  have h := next_of_holds (r := step ((user (core 0 0)).withFetchWord 32 0x01000000)) (p := fun t => !t.psr.s && t.pc == 4) (by decide)
  ⟨(user (core 0 0)).withFetchWord 32 0x01000000, h.choose, h.choose_spec.1, h.choose_spec.2, by decide⟩

theorem witness_PrivilegeBoundary_trap : ∃ s t : State, step s = .next t ∧ (t.psr.s) = true ∧ s.status = .normal ∧ s.psr.s = false :=
  have h := next_of_holds (r := step (enabled (user (core 0 0)))) (p := fun t => t.psr.s) (by decide)
  ⟨enabled (user (core 0 0)), h.choose, h.choose_spec.1, h.choose_spec.2, by decide⟩

theorem witness_PrivilegeBoundary_reset : ∃ s t : State, step s = .next t ∧ (t.psr.s) = true ∧ s.status = .normal ∧ s.psr.s = false :=
  have h := next_of_holds (r := step ((user (core 0 0)).raise .reset)) (p := fun t => t.psr.s) (by decide)
  ⟨(user (core 0 0)).raise .reset, h.choose, h.choose_spec.1, h.choose_spec.2, by decide⟩

theorem witness_PrivilegeBoundary_rett : ∃ (i : Instr) (s : State) (t : State), exec i s = .next t ∧ (!t.psr.s) = true ∧ s.psr.s = true :=
  have h := next_of_holds (r := exec (.rett 0 1 (.imm 0)) (core 0 0)) (p := fun t => !t.psr.s) (by decide)
  ⟨.rett 0 1 (.imm 0), core 0 0, h.choose, h.choose_spec.1, h.choose_spec.2, by decide⟩

theorem witness_LogicalResults : ∃ (s : State) (rs1 : Reg) (src : Operand2) (a b : Word),
    s.sized = true ∧ s.quiet = true ∧ a = s.reg rs1 ∧ b = s.operand2 src :=
  ⟨core 0xFFFFFFFF 1, 1, .reg 0 2, 0xFFFFFFFF, 1, by decide⟩

theorem witness_LogicalCcResults : ∃ (s : State) (rs1 : Reg) (src : Operand2) (a b : Word),
    s.sized = true ∧ s.quiet = true ∧ a = s.reg rs1 ∧ b = s.operand2 src :=
  ⟨core 0xFFFFFFFF 1, 1, .reg 0 2, 0xFFFFFFFF, 1, by decide⟩

theorem witness_SethiAddSubResults : ∃ (s : State) (rs1 : Reg) (src : Operand2) (a b : Word),
    s.sized = true ∧ s.quiet = true ∧ a = s.reg rs1 ∧ b = s.operand2 src :=
  ⟨core 0xFFFFFFFF 1, 1, .reg 0 2, 0xFFFFFFFF, 1, by decide⟩

theorem witness_AddSubCcResults : ∃ (s : State) (rs1 : Reg) (src : Operand2) (a b : Word),
    s.sized = true ∧ s.quiet = true ∧ a = s.reg rs1 ∧ b = s.operand2 src :=
  ⟨core 0xFFFFFFFF 1, 1, .reg 0 2, 0xFFFFFFFF, 1, by decide⟩

theorem witness_LogicalResults_immediate : ∃ (s : State) (rs1 : Reg) (src : Operand2) (a b : Word) (v : BitVec 13),
    s.sized = true ∧ s.quiet = true ∧ a = s.reg rs1 ∧ b = s.operand2 src ∧ src = .imm v :=
  ⟨core 5 1, 1, .imm 0x1FFF, 5, 0xFFFFFFFF, 0x1FFF, by decide⟩

theorem witness_LogicalResults_register : ∃ (s : State) (rs1 : Reg) (src : Operand2) (a b : Word) (asi : BitVec 8) (r : Reg),
    s.sized = true ∧ s.quiet = true ∧ a = s.reg rs1 ∧ b = s.operand2 src ∧ src = .reg asi r :=
  ⟨core 5 7, 1, .reg 0xFF 2, 5, 7, 0xFF, 2, by decide⟩

theorem witness_SethiAddSubResults_immediate : ∃ (s : State) (rs1 : Reg) (src : Operand2) (a b : Word) (v : BitVec 13),
    s.sized = true ∧ s.quiet = true ∧ a = s.reg rs1 ∧ b = s.operand2 src ∧ src = .imm v :=
  ⟨core 5 1, 1, .imm 0x1FFF, 5, 0xFFFFFFFF, 0x1FFF, by decide⟩

theorem witness_SethiAddSubResults_register : ∃ (s : State) (rs1 : Reg) (src : Operand2) (a b : Word) (asi : BitVec 8) (r : Reg),
    s.sized = true ∧ s.quiet = true ∧ a = s.reg rs1 ∧ b = s.operand2 src ∧ src = .reg asi r :=
  ⟨core 5 7, 1, .reg 0xFF 2, 5, 7, 0xFF, 2, by decide⟩

theorem witness_ShiftResults : ∃ (s : State) (rs1 : Reg) (src : Operand2) (a : Word) (k : Nat),
    s.sized = true ∧ s.quiet = true ∧ a = s.reg rs1 ∧ k = (s.operand2 src).toNat % 32 :=
  ⟨core 0x80000001 0xFFFFFFFF, 1, .reg 0 2, 0x80000001, 31, by decide⟩

theorem witness_OverflowIsSignedRange : ∃ a b r r' : Word,
    r = a + b ∧ r' = a - b :=
  ⟨0x80000000, 0x80000000, 0, 0, by decide⟩

theorem witness_ConditionsAfterCompare : ∃ (a b : Word) (f : Icc),
    f = iccSub a b false (a - b) :=
  ⟨0x7FFFFFFF, 0xFFFFFFFF, icc true false true true, by decide⟩

theorem witness_MultiplyResults : ∃ (s : State) (rs1 : Reg) (src : Operand2) (p : Nat) (q : Int),
    s.sized = true ∧ s.quiet = true ∧ p = (s.reg rs1).toNat * (s.operand2 src).toNat ∧ q = (s.reg rs1).toInt * (s.operand2 src).toInt :=
  ⟨core 0xFFFFFFFF 0xFFFFFFFF, 1, .reg 0 2, 0xFFFFFFFE00000001, 1, by decide⟩

theorem witness_DivideResults_zero : ∃ (s : State) (src : Operand2) (b : Word),
    b = s.operand2 src ∧ b = 0 :=
  ⟨core 5 0, .reg 0 2, 0, by decide⟩

theorem witness_DivideResults_in_range : ∃ (s : State) (rs1 : Reg) (src : Operand2) (b : Word) (p : Nat) (q : Int) (u v : Word),
    b = s.operand2 src ∧ b ≠ 0 ∧ s.sized = true ∧ s.quiet = true ∧ p = (s.y.toNat * 2 ^ 32 + (s.reg rs1).toNat) / b.toNat ∧
      q = (s.y.toInt * 2 ^ 32 + (s.reg rs1).toNat).tdiv b.toInt ∧ u = (if 2 ^ 32 - 1 < p then 0xFFFFFFFF else BitVec.ofNat 32 p) ∧
      v = (if 2 ^ 31 - 1 < q then 0x7FFFFFFF else if q < -2 ^ 31 then 0x80000000 else BitVec.ofInt 32 q) :=
  ⟨core 7 2, 1, .reg 0 2, 2, 3, 3, 3, 3, by decide⟩

/-- Both quotients are above their ranges, the unsigned one by the least amount. -/
theorem witness_DivideResults_above : ∃ (s : State) (rs1 : Reg) (src : Operand2) (b : Word) (p : Nat) (q : Int) (u v : Word),
    b = s.operand2 src ∧ b ≠ 0 ∧ s.sized = true ∧ s.quiet = true ∧ p = (s.y.toNat * 2 ^ 32 + (s.reg rs1).toNat) / b.toNat ∧
      q = (s.y.toInt * 2 ^ 32 + (s.reg rs1).toNat).tdiv b.toInt ∧ u = (if 2 ^ 32 - 1 < p then 0xFFFFFFFF else BitVec.ofNat 32 p) ∧
      v = (if 2 ^ 31 - 1 < q then 0x7FFFFFFF else if q < -2 ^ 31 then 0x80000000 else BitVec.ofInt 32 q) :=
  ⟨(core 0 1).setY 1, 1, .reg 0 2, 1, 2 ^ 32, 2 ^ 32, 0xFFFFFFFF, 0x7FFFFFFF, by decide⟩

/-- The signed quotient is below its range by the least amount. -/
theorem witness_DivideResults_below : ∃ (s : State) (rs1 : Reg) (src : Operand2) (b : Word) (p : Nat) (q : Int) (u v : Word),
    b = s.operand2 src ∧ b ≠ 0 ∧ s.sized = true ∧ s.quiet = true ∧ p = (s.y.toNat * 2 ^ 32 + (s.reg rs1).toNat) / b.toNat ∧
      q = (s.y.toInt * 2 ^ 32 + (s.reg rs1).toNat).tdiv b.toInt ∧ u = (if 2 ^ 32 - 1 < p then 0xFFFFFFFF else BitVec.ofNat 32 p) ∧
      v = (if 2 ^ 31 - 1 < q then 0x7FFFFFFF else if q < -2 ^ 31 then 0x80000000 else BitVec.ofInt 32 q) :=
  ⟨(core 0x7FFFFFFF 1).setY 0xFFFFFFFF, 1, .reg 0 2, 1, 0xFFFFFFFF7FFFFFFF, -0x80000001, 0xFFFFFFFF, 0x80000000, by decide⟩

theorem witness_DivideOverflowBoundary : ∃ y a b : Word,
    b ≠ 0 ∧ y = (if a.msb then 0xFFFFFFFF else 0) :=
  ⟨0xFFFFFFFF, 0x80000000, 0xFFFFFFFF, by decide⟩

theorem witness_MultiplyStepResult : ∃ (s : State) (rs1 : Reg) (src : Operand2) (a b o1 o2 y : Word),
    s.sized = true ∧ s.quiet = true ∧ a = s.reg rs1 ∧ b = s.operand2 src ∧
      o1 = BitVec.ofNat 32 (a.toNat / 2 + (if s.psr.icc.n ^^ s.psr.icc.v then 2 ^ 31 else 0)) ∧
      o2 = (if s.y.getLsbD 0 then b else 0) ∧ y = BitVec.ofNat 32 (s.y.toNat / 2 + (if a.getLsbD 0 then 2 ^ 31 else 0)) :=
  ⟨(core 3 5).setY 1, 1, .reg 0 2, 3, 5, 1, 5, 0x80000000, by decide⟩

/-- The last word of the address space. -/
theorem witness_LoadResults_word : ∃ (s : State) (rs1 : Reg) (src : Operand2) (ea : Word),
    s.sized = true ∧ s.quiet = true ∧ ea = s.reg rs1 + s.operand2 src ∧ ea.toNat % 4 = 0 ∧ s.portFaults .read ea 4 = false :=
  ⟨core 0xFFFFFFFC 0, 1, .imm 0, 0xFFFFFFFC, by decide⟩

theorem witness_LoadResults_byte : ∃ (s : State) (rs1 : Reg) (src : Operand2) (ea : Word),
    s.sized = true ∧ s.quiet = true ∧ ea = s.reg rs1 + s.operand2 src ∧ s.portFaults .read ea 1 = false :=
  ⟨core 0xFFFFFFFF 0, 1, .imm 0, 0xFFFFFFFF, by decide⟩

theorem witness_LoadResults_half : ∃ (s : State) (rs1 : Reg) (src : Operand2) (ea : Word) (h : BitVec 16),
    s.sized = true ∧ s.quiet = true ∧ ea = s.reg rs1 + s.operand2 src ∧ ea.toNat % 2 = 0 ∧ s.portFaults .read ea 2 = false ∧
      h = BitVec.ofNat 16 ((s.byteAt ea).toNat * 2 ^ 8 + (s.byteAt (ea + 1)).toNat) :=
  ⟨(core 0x1002 0).putWord 0x1000 0x81828384, 1, .imm 0, 0x1002, 0x8384, by decide⟩

theorem witness_LoadDoubleResult : ∃ (s : State) (rd rs1 : Reg) (src : Operand2) (ea : Word),
    s.sized = true ∧ s.quiet = true ∧ ea = s.reg rs1 + s.operand2 src ∧ rd.toNat % 2 = 0 ∧ ea.toNat % 8 = 0 ∧ s.portFaults .read ea 4 = false ∧
      s.portFaults .read (ea + 4) 4 = false :=
  ⟨core 0x1000 0, 30, 1, .imm 0, 0x1000, by decide⟩

theorem witness_StoreResults_word : ∃ (s : State) (rs1 : Reg) (src : Operand2) (ea : Word),
    s.quiet = true ∧ Memory.wf s.mem = true ∧ ea = s.reg rs1 + s.operand2 src ∧ ea.toNat % 4 = 0 ∧ s.portFaults .write ea 4 = false :=
  ⟨core 0xFFFFFFFC 0, 1, .imm 0, 0xFFFFFFFC, by decide⟩

theorem witness_StoreResults_byte : ∃ (s : State) (rs1 : Reg) (src : Operand2) (ea : Word),
    s.quiet = true ∧ Memory.wf s.mem = true ∧ ea = s.reg rs1 + s.operand2 src ∧ s.portFaults .write ea 1 = false :=
  ⟨core 0xFFFFFFFF 0, 1, .imm 0, 0xFFFFFFFF, by decide⟩

theorem witness_StoreResults_half : ∃ (s : State) (rs1 : Reg) (src : Operand2) (ea : Word),
    s.quiet = true ∧ Memory.wf s.mem = true ∧ ea = s.reg rs1 + s.operand2 src ∧ ea.toNat % 2 = 0 ∧ s.portFaults .write ea 2 = false :=
  ⟨core 0x1002 0, 1, .imm 0, 0x1002, by decide⟩

theorem witness_StoreResults_word_misaligned : ∃ (s : State) (rs1 : Reg) (src : Operand2) (ea : Word),
    s.quiet = true ∧ Memory.wf s.mem = true ∧ ea = s.reg rs1 + s.operand2 src ∧ ea.toNat % 4 ≠ 0 :=
  ⟨core 0x1002 0, 1, .imm 0, 0x1002, by decide⟩

theorem witness_StoreResults_half_misaligned : ∃ (s : State) (rs1 : Reg) (src : Operand2) (ea : Word),
    s.quiet = true ∧ Memory.wf s.mem = true ∧ ea = s.reg rs1 + s.operand2 src ∧ ea.toNat % 2 ≠ 0 :=
  ⟨core 0x1001 0, 1, .imm 0, 0x1001, by decide⟩

theorem witness_StoreDoubleResult : ∃ (s : State) (rd rs1 : Reg) (src : Operand2) (ea : Word),
    s.quiet = true ∧ Memory.wf s.mem = true ∧ ea = s.reg rs1 + s.operand2 src ∧ rd.toNat % 2 = 0 ∧ ea.toNat % 8 = 0 ∧ s.portFaults .write ea 4 = false ∧
      s.portFaults .write (ea + 4) 4 = false :=
  ⟨core 0xFFFFFFF8 0, 0, 1, .imm 0, 0xFFFFFFF8, by decide⟩

theorem witness_LoadStoreTraps_word : ∃ (s : State) (rs1 : Reg) (src : Operand2) (ea : Word),
    ea = s.reg rs1 + s.operand2 src ∧ ea.toNat % 4 ≠ 0 :=
  ⟨core 0x1003 0, 1, .imm 0, 0x1003, by decide⟩

theorem witness_LoadStoreTraps_half : ∃ (s : State) (rs1 : Reg) (src : Operand2) (ea : Word),
    ea = s.reg rs1 + s.operand2 src ∧ ea.toNat % 2 ≠ 0 :=
  ⟨core 0x1001 0, 1, .imm 0, 0x1001, by decide⟩

theorem witness_LoadStoreTraps_double : ∃ (s : State) (rd rs1 : Reg) (src : Operand2) (ea : Word),
    ea = s.reg rs1 + s.operand2 src ∧ rd.toNat % 2 = 0 ∧ ea.toNat % 8 ≠ 0 :=
  ⟨core 0x1004 0, 2, 1, .imm 0, 0x1004, by decide⟩

/-- Odd rd at a misaligned address: the other clauses do not hold of it. -/
theorem witness_LoadStoreTraps_odd : ∃ (s : State) (rd rs1 : Reg) (src : Operand2) (ea : Word),
    ea = s.reg rs1 + s.operand2 src ∧ rd.toNat % 2 = 1 :=
  ⟨core 0x1004 0, 31, 1, .imm 0, 0x1004, by decide⟩

theorem witness_StoreThenLoad_word : ∃ (s : State) (rd rs1 : Reg) (src : Operand2) (ea : Word),
    s.sized = true ∧ s.quiet = true ∧ Memory.wf s.mem = true ∧ ea = s.reg rs1 + s.operand2 src ∧ ea.toNat % 4 = 0 ∧ s.portFaults .write ea 4 = false ∧ s.portFaults .read ea 4 = false ∧
      ∃ t, exec (.st rd rs1 src) s = .next t ∧ ∃ (rs1' : Reg) (src' : Operand2), t.reg rs1' + t.operand2 src' = ea :=
  have h := next_of_holds (r := exec (.st 2 1 (.imm 0)) (denying true true false (core 0xFFC 7))) (p := fun t => t.reg 1 + t.operand2 (.imm 0) == 0xFFC) (by decide)
  ⟨denying true true false (core 0xFFC 7), 2, 1, .imm 0, 0xFFC, by decide, by decide, by decide, by decide, by decide, by decide, by decide,
    h.choose, h.choose_spec.1, 1, .imm 0, by simpa using h.choose_spec.2⟩

theorem witness_StoreThenLoad_half : ∃ (s : State) (rd rs1 : Reg) (src : Operand2) (ea : Word),
    s.sized = true ∧ s.quiet = true ∧ Memory.wf s.mem = true ∧ ea = s.reg rs1 + s.operand2 src ∧ ea.toNat % 2 = 0 ∧ s.portFaults .write ea 2 = false ∧ s.portFaults .read ea 2 = false ∧
      ∃ t, exec (.sth rd rs1 src) s = .next t ∧ ∃ (rs1' : Reg) (src' : Operand2), t.reg rs1' + t.operand2 src' = ea :=
  have h := next_of_holds (r := exec (.sth 2 1 (.imm 0)) (core 0xFFFFFFFE 7)) (p := fun t => t.reg 1 + t.operand2 (.imm 0) == 0xFFFFFFFE) (by decide)
  ⟨core 0xFFFFFFFE 7, 2, 1, .imm 0, 0xFFFFFFFE, by decide, by decide, by decide, by decide, by decide, by decide, by decide,
    h.choose, h.choose_spec.1, 1, .imm 0, by simpa using h.choose_spec.2⟩

theorem witness_StoreThenLoad_byte : ∃ (s : State) (rd rs1 : Reg) (src : Operand2) (ea : Word),
    s.sized = true ∧ s.quiet = true ∧ Memory.wf s.mem = true ∧ ea = s.reg rs1 + s.operand2 src ∧ s.portFaults .write ea 1 = false ∧ s.portFaults .read ea 1 = false ∧
      ∃ t, exec (.stb rd rs1 src) s = .next t ∧ ∃ (rs1' : Reg) (src' : Operand2), t.reg rs1' + t.operand2 src' = ea :=
  have h := next_of_holds (r := exec (.stb 2 1 (.imm 0)) (core 0xFFFFFFFF 7)) (p := fun t => t.reg 1 + t.operand2 (.imm 0) == 0xFFFFFFFF) (by decide)
  ⟨core 0xFFFFFFFF 7, 2, 1, .imm 0, 0xFFFFFFFF, by decide, by decide, by decide, by decide, by decide, by decide,
    h.choose, h.choose_spec.1, 1, .imm 0, by simpa using h.choose_spec.2⟩

theorem witness_StoreThenLoad_double : ∃ (s : State) (rd rs1 : Reg) (src : Operand2) (ea : Word),
    s.sized = true ∧ s.quiet = true ∧ Memory.wf s.mem = true ∧ ea = s.reg rs1 + s.operand2 src ∧ rd.toNat % 2 = 0 ∧ ea.toNat % 8 = 0 ∧ s.portFaults .write ea 4 = false ∧ s.portFaults .write (ea + 4) 4 = false ∧
      s.portFaults .read ea 4 = false ∧ s.portFaults .read (ea + 4) 4 = false ∧
      ∃ t, exec (.std rd rs1 src) s = .next t ∧ ∃ (rd' rs1' : Reg) (src' : Operand2), rd'.toNat % 2 = 0 ∧ t.reg rs1' + t.operand2 src' = ea :=
  have h := next_of_holds (r := exec (.std 2 1 (.imm 0)) (core 0xFFFFFFF8 7)) (p := fun t => t.reg 1 + t.operand2 (.imm 0) == 0xFFFFFFF8) (by decide)
  ⟨core 0xFFFFFFF8 7, 2, 1, .imm 0, 0xFFFFFFF8, by decide, by decide, by decide, by decide, by decide, by decide, by decide, by decide, by decide, by decide,
    h.choose, h.choose_spec.1, 2, 1, .imm 0, by decide, by simpa using h.choose_spec.2⟩

theorem witness_PortFaultStops_fetch : ∃ s : State,
    s.status = .normal ∧ s.stage = .boundary ∧ s.portFaults .fetch s.npc 4 = true :=
  ⟨{ denying false false true (core 0 0) with npc := 0x1000 }, by decide⟩

theorem witness_PortFaultStops_byte : ∃ (s : State) (rs1 : Reg) (src : Operand2) (ea : Word),
    ea = s.reg rs1 + s.operand2 src ∧ s.portFaults .read ea 1 = true ∧ s.portFaults .write ea 1 = true :=
  ⟨denying true true false (core 0x1FFF 0), 1, .imm 0, 0x1FFF, by decide⟩

theorem witness_PortFaultStops_half : ∃ (s : State) (rs1 : Reg) (src : Operand2) (ea : Word),
    ea = s.reg rs1 + s.operand2 src ∧ ea.toNat % 2 = 0 ∧ s.portFaults .read ea 2 = true ∧ s.portFaults .write ea 2 = true :=
  ⟨denying true true false (core 0x1FFE 0), 1, .imm 0, 0x1FFE, by decide⟩

theorem witness_PortFaultStops_word : ∃ (s : State) (rs1 : Reg) (src : Operand2) (ea : Word),
    ea = s.reg rs1 + s.operand2 src ∧ ea.toNat % 4 = 0 ∧ s.portFaults .read ea 4 = true ∧ s.portFaults .write ea 4 = true :=
  ⟨denying true true false (core 0x1FFC 0), 1, .imm 0, 0x1FFC, by decide⟩

theorem witness_PortFaultStops_LDSTUB_read : ∃ (s : State) (rs1 : Reg) (src : Operand2) (ea : Word),
    ea = s.reg rs1 + s.operand2 src ∧ ea.toNat % 1 = 0 ∧ s.cfg.implUnlisted = .v8 ∧ s.portFaults .read ea 1 = true :=
  ⟨denying true false false (v8 (core 0x1000 0)), 1, .imm 0, 0x1000, by decide⟩

theorem witness_PortFaultStops_LDSTUB_write : ∃ (s : State) (rs1 : Reg) (src : Operand2) (ea : Word),
    ea = s.reg rs1 + s.operand2 src ∧ ea.toNat % 1 = 0 ∧ s.cfg.implUnlisted = .v8 ∧ s.portFaults .write ea 1 = true ∧ s.portFaults .read ea 1 = false :=
  ⟨denying false true false (v8 (core 0x1000 0)), 1, .imm 0, 0x1000, by decide⟩

theorem witness_PortFaultStops_SWAP_read : ∃ (s : State) (rs1 : Reg) (src : Operand2) (ea : Word),
    ea = s.reg rs1 + s.operand2 src ∧ ea.toNat % 4 = 0 ∧ s.cfg.implUnlisted = .v8 ∧ s.portFaults .read ea 4 = true :=
  ⟨denying true false false (v8 (core 0x1000 0)), 1, .imm 0, 0x1000, by decide⟩

theorem witness_PortFaultStops_SWAP_write : ∃ (s : State) (rs1 : Reg) (src : Operand2) (ea : Word),
    ea = s.reg rs1 + s.operand2 src ∧ ea.toNat % 4 = 0 ∧ s.cfg.implUnlisted = .v8 ∧ s.portFaults .write ea 4 = true ∧ s.portFaults .read ea 4 = false :=
  ⟨denying false true false (v8 (core 0x1000 0)), 1, .imm 0, 0x1000, by decide⟩

theorem witness_PortFaultStops_double_first : ∃ (s : State) (rd rs1 : Reg) (src : Operand2) (ea : Word),
    ea = s.reg rs1 + s.operand2 src ∧ rd.toNat % 2 = 0 ∧ ea.toNat % 8 = 0 ∧ s.portFaults .read ea 4 = true ∧ s.portFaults .write ea 4 = true :=
  ⟨denying true true false (core 0x1FF8 0), 2, 1, .imm 0, 0x1FF8, by decide⟩

/-- The second word alone is denied. -/
theorem witness_PortFaultStops_double_second : ∃ (s : State) (rd rs1 : Reg) (src : Operand2) (ea : Word),
    ea = s.reg rs1 + s.operand2 src ∧ rd.toNat % 2 = 0 ∧ ea.toNat % 8 = 0 ∧ s.portFaults .read ea 4 = false ∧ s.portFaults .read (ea + 4) 4 = true ∧
      s.portFaults .write ea 4 = false ∧ s.portFaults .write (ea + 4) 4 = true :=
  ⟨{ core 0x1000 0 with cfg := { Config.default with port := [{ base := 0x1004, size := 4, denyRead := true, denyWrite := true, denyFetch := false }] } }, 2, 1, .imm 0, 0x1000, by decide⟩

theorem witness_PortFaultStops_annul : ∃ s : State,
    s.annul = true ∧ s.portFaults .fetch s.npc2 4 = true :=
  ⟨({ denying false false true (core 0 0) with npc2 := 0x1000 } : State).setAnnul, by decide⟩

theorem witness_PortFaultStops_untaken : ∃ (s : State) (c : Cond),
    condHolds c s.psr.icc = false ∧ s.portFaults .fetch s.npc2 4 = true :=
  ⟨{ denying false false true (core 0 0) with npc2 := 0x1000 }, .n, by decide⟩

theorem witness_PortFaultStops_branch_always : ∃ (s : State) (disp22 : BitVec 22) (t : Word),
    t = s.pc + BitVec.ofInt 32 (disp22.toInt * 4) ∧ s.cfg.baAnnul = .v8 ∧ s.portFaults .fetch t 4 = true :=
  ⟨denying false false true (v8 (core 0 0)), 0x400, 0x1000, by decide⟩

theorem witness_PortFaultStops_vector : ∃ (s : State) (t : Trap),
    s.annul = false ∧ s.selectTrap = some t ∧ t ≠ .reset ∧ (Trap.isInterrupt t = true ∨ s.psr.et = true) ∧
      s.portFaults .fetch (s.tbr.tba ++ Trap.tt t ++ 0#4) 4 = true :=
  ⟨{ denying false false true ((core 0 0).raise (.interruptLevel 3)) with tbr := { tba := 0x00001, tt := 0 } }, .interruptLevel 3, by decide⟩

theorem witness_PortFaultStops_vector_annul : ∃ (s : State) (t : Trap),
    s.annul = true ∧ s.portFaults .fetch s.npc2 4 = false ∧ s.selectTrap = some t ∧ t ≠ .reset ∧ (Trap.isInterrupt t = true ∨ s.psr.et = true) ∧
      s.portFaults .fetch (s.tbr.tba ++ Trap.tt t ++ 0#4) 4 = true :=
  ⟨({ denying false false true ((core 0 0).raise (.interruptLevel 3)) with tbr := { tba := 0x00001, tt := 0 } } : State).setAnnul, .interruptLevel 3, by decide⟩

theorem witness_PortFaultStops_reset : ∃ s : State,
    s.annul = false ∧ s.selectTrap = some .reset ∧ s.portFaults .fetch s.bootEntry 4 = true :=
  ⟨{ denying false false true ((core 0 0).raise .reset) with bootEntry := 0x1000 }, by decide⟩

theorem witness_PortFaultStops_reset_annul : ∃ s : State,
    s.annul = true ∧ s.portFaults .fetch s.npc2 4 = false ∧ s.selectTrap = some .reset ∧ s.portFaults .fetch s.bootEntry 4 = true :=
  ⟨({ denying false false true ((core 0 0).raise .reset) with bootEntry := 0x1000 } : State).setAnnul, by decide⟩

theorem witness_PortFaultStops_boot : ∃ (s : State) (e : Word),
    e.toNat % 4 = 0 ∧ s.portFaults .fetch e 4 = true :=
  ⟨denying false false true (core 0 0), 0x1FFC, by decide⟩

theorem witness_PortFaultStops_status : ∃ s : State,
    s.status = .hardFault :=
  ⟨{ core 0 0 with status := .hardFault }, by decide⟩

theorem witness_CallResult : ∃ s : State,
    s.sized = true ∧ s.quiet = true :=
  ⟨core 0 0, by decide⟩

theorem witness_JmplResult_misaligned : ∃ (s : State) (rs1 : Reg) (src : Operand2) (t : Word),
    t = s.reg rs1 + s.operand2 src ∧ t.toNat % 4 ≠ 0 :=
  ⟨core 0x1002 0, 1, .imm 0, 0x1002, by decide⟩

theorem witness_JmplResult_aligned : ∃ (s : State) (rs1 : Reg) (src : Operand2) (t : Word),
    t = s.reg rs1 + s.operand2 src ∧ t.toNat % 4 = 0 ∧ s.sized = true ∧ s.quiet = true :=
  ⟨core 0x1000 0, 1, .imm 0, 0x1000, by decide⟩

theorem witness_ReturnFromTrap_user : ∃ (s : State) (rs1 : Reg) (src : Operand2) (n : Nat) (t : Word),
    s.sized = true ∧ n = (s.psr.cwp.toNat + 1) % s.cfg.nwin ∧ t = s.reg rs1 + s.operand2 src ∧ s.psr.s = false :=
  ⟨user ({ core 0x1000 0 with psr := { (core 0x1000 0).psr with cwp := 7 } } : State), 1, .imm 0, 0, 0x1000, by decide⟩

theorem witness_ReturnFromTrap_enabled : ∃ (s : State) (rs1 : Reg) (src : Operand2) (n : Nat) (t : Word),
    s.sized = true ∧ n = (s.psr.cwp.toNat + 1) % s.cfg.nwin ∧ t = s.reg rs1 + s.operand2 src ∧ s.psr.s = true ∧ s.psr.et = true :=
  ⟨enabled ({ core 0x1000 0 with psr := { (core 0x1000 0).psr with cwp := 7 } } : State), 1, .imm 0, 0, 0x1000, by decide⟩

theorem witness_ReturnFromTrap_window : ∃ (s : State) (rs1 : Reg) (src : Operand2) (n : Nat) (t : Word),
    s.sized = true ∧ n = (s.psr.cwp.toNat + 1) % s.cfg.nwin ∧ t = s.reg rs1 + s.operand2 src ∧ s.psr.s = true ∧ s.psr.et = false ∧ s.wim.getLsbD n = true :=
  ⟨({ core 0x1000 0 with psr := { (core 0x1000 0).psr with cwp := 7 } } : State).setWim 1, 1, .imm 0, 0, 0x1000, by decide⟩

theorem witness_ReturnFromTrap_misaligned : ∃ (s : State) (rs1 : Reg) (src : Operand2) (n : Nat) (t : Word),
    s.sized = true ∧ n = (s.psr.cwp.toNat + 1) % s.cfg.nwin ∧ t = s.reg rs1 + s.operand2 src ∧ s.psr.s = true ∧ s.psr.et = false ∧ s.wim.getLsbD n = false ∧ t.toNat % 4 ≠ 0 :=
  ⟨({ core 0x1000 0 with psr := { (core 0x1000 0).psr with cwp := 7 } } : State), 1, .imm 2, 0, 0x1002, by decide⟩

theorem witness_ReturnFromTrap_returns : ∃ (s : State) (rs1 : Reg) (src : Operand2) (n : Nat) (t : Word),
    s.sized = true ∧ n = (s.psr.cwp.toNat + 1) % s.cfg.nwin ∧ t = s.reg rs1 + s.operand2 src ∧ s.psr.s = true ∧ s.psr.et = false ∧ s.wim.getLsbD n = false ∧ t.toNat % 4 = 0 ∧ s.quietWith true s.psr.pil = true :=
  ⟨({ core 0x1000 0 with psr := { (core 0x1000 0).psr with cwp := 7 } } : State), 1, .imm 0, 0, 0x1000, by decide⟩

theorem witness_ConditionalBranch_taken : ∃ (s : State) (c : Cond) (a : Bool),
    s.quiet = true ∧ (c = .a → s.cfg.baAnnul = .doc ∨ a = false) ∧ condHolds c s.psr.icc = true :=
  ⟨core 0 0, .a, true, by decide⟩

theorem witness_ConditionalBranch_untaken : ∃ (s : State) (c : Cond) (a : Bool),
    s.quiet = true ∧ (c = .a → s.cfg.baAnnul = .doc ∨ a = false) ∧ condHolds c s.psr.icc = false ∧ a = false :=
  ⟨core 0 0, .e, false, by decide⟩

theorem witness_ConditionalBranch_annulled : ∃ (s : State) (c : Cond) (a : Bool),
    s.quiet = true ∧ (c = .a → s.cfg.baAnnul = .doc ∨ a = false) ∧ condHolds c s.psr.icc = false ∧ a = true ∧ s.portFaults .fetch s.npc2 4 = false :=
  ⟨core 0 0, .n, true, by decide⟩

theorem witness_BranchAlways_doc : ∃ (s : State) (a : Bool),
    s.quiet = true ∧ (s.cfg.baAnnul = .doc ∨ a = false) :=
  ⟨v8 (core 0 0), false, by decide⟩

theorem witness_BranchAlways_v8 : ∃ (s : State) (a : Bool) (d : BitVec 22) (t : Word),
    s.quiet = true ∧ t = s.pc + BitVec.ofInt 32 (d.toInt * 4) ∧ s.cfg.baAnnul = .v8 ∧ a = true ∧ s.portFaults .fetch t 4 = false :=
  ⟨v8 (core 0 0), true, 0x3FFFFF, 0xFFFFFFFC, by decide⟩

theorem witness_TrapOnCondition_enters : ∃ (s : State) (c : Cond) (rs1 : Reg) (src : Operand2) (n : BitVec 7),
    n = BitVec.ofNat 7 (((s.reg rs1).toNat + (s.operand2 src).toNat) % 128) ∧ condHolds c s.psr.icc = true ∧ s.canEnter (.trapInstruction n) = true :=
  ⟨enabled (core 0 0), .ne, 0, .imm 0x1FFF, 127, by decide⟩

theorem witness_TrapOnCondition_error : ∃ (s : State) (c : Cond) (rs1 : Reg) (src : Operand2) (n : BitVec 7),
    n = BitVec.ofNat 7 (((s.reg rs1).toNat + (s.operand2 src).toNat) % 128) ∧ condHolds c s.psr.icc = true ∧ s.selects (.trapInstruction n) = true ∧ s.psr.et = false :=
  ⟨core 0 0, .a, 0, .imm 0, 0, by decide⟩

theorem witness_TrapOnCondition_false : ∃ (s : State) (c : Cond) (rs1 : Reg) (src : Operand2) (n : BitVec 7),
    n = BitVec.ofNat 7 (((s.reg rs1).toNat + (s.operand2 src).toNat) % 128) ∧ condHolds c s.psr.icc = false ∧ s.quiet = true :=
  ⟨core 0 0, .n, 0, .imm 0, 0, by decide⟩

theorem witness_SaveAndRestore_invalid : ∃ (s : State) (rs1 : Reg) (src : Operand2) (v : Word) (p n : Nat),
    s.sized = true ∧ v = s.reg rs1 + s.operand2 src ∧ p = (s.psr.cwp.toNat + s.cfg.nwin - 1) % s.cfg.nwin ∧
      n = (s.psr.cwp.toNat + 1) % s.cfg.nwin ∧ s.wim.getLsbD p = true ∧ s.wim.getLsbD n = true :=
  ⟨(core 0 0).setWim 0x82, 1, .imm 0, 0, 7, 1, by decide⟩

theorem witness_SaveAndRestore_valid : ∃ (s : State) (rs1 : Reg) (src : Operand2) (v : Word) (p n : Nat),
    s.sized = true ∧ v = s.reg rs1 + s.operand2 src ∧ p = (s.psr.cwp.toNat + s.cfg.nwin - 1) % s.cfg.nwin ∧
      n = (s.psr.cwp.toNat + 1) % s.cfg.nwin ∧ s.wim.getLsbD p = false ∧ s.wim.getLsbD n = false ∧ s.quiet = true :=
  ⟨(core 0 0).setWim 1, 1, .imm 0, 0, 7, 1, by decide⟩

/-- With the smallest number of windows. -/
theorem witness_SaveThenRestore_locals : ∃ (s : State) (rd rd' g l : Reg),
    s.sized = true ∧ s.quiet = true ∧ s.wim.getLsbD ((s.psr.cwp.toNat + s.cfg.nwin - 1) % s.cfg.nwin) = false ∧ s.wim.getLsbD s.psr.cwp.toNat = false ∧
      g.toNat < 8 ∧ g ≠ rd ∧ g ≠ rd' ∧ 16 ≤ l.toNat ∧ l.toNat < 24 ∧ l ≠ rd' :=
  ⟨{ core 0 0 with cfg := { Config.default with nwin := 2 }, windows := List.replicate 32 0 }, 16, 24, 7, 23, by decide⟩

/-- With two windows SAVE to r8 writes r24 of the old window, and r25 stays. -/
theorem witness_SaveThenRestore_ins : ∃ (s : State) (rd rd' i : Reg),
    s.sized = true ∧ s.quiet = true ∧ s.wim.getLsbD ((s.psr.cwp.toNat + s.cfg.nwin - 1) % s.cfg.nwin) = false ∧ s.wim.getLsbD s.psr.cwp.toNat = false ∧
      24 ≤ i.toNat ∧ i ≠ rd' ∧ (s.cfg.nwin = 2 → i.toNat ≠ rd.toNat + 16) :=
  ⟨{ core 0 0 with cfg := { Config.default with nwin := 2 }, windows := List.replicate 32 0 }, 8, 26, 25, by decide⟩

theorem witness_SaveThenRestore_ins_of_more_windows : ∃ (s : State) (rd rd' i : Reg),
    s.sized = true ∧ s.quiet = true ∧ s.wim.getLsbD ((s.psr.cwp.toNat + s.cfg.nwin - 1) % s.cfg.nwin) = false ∧ s.wim.getLsbD s.psr.cwp.toNat = false ∧
      24 ≤ i.toNat ∧ i ≠ rd' ∧ (s.cfg.nwin = 2 → i.toNat ≠ rd.toNat + 16) :=
  ⟨core 0 0, 8, 31, 24, by decide⟩

theorem witness_WindowOverlap : ∃ (nwin : Nat) (w w' : BitVec 5) (l i : Reg) (k : Nat),
    2 ≤ nwin ∧ nwin ≤ 32 ∧ w.toNat < nwin ∧ k < 8 ∧ w'.toNat < nwin ∧ 16 ≤ l.toNat ∧ l.toNat < 24 ∧
      regCell nwin w l = regCell nwin w' i ∧ 8 ≤ i.toNat :=
  ⟨32, 31, 31, 23, 23, 7, by decide⟩

theorem witness_ReadSpecialRegisters : ∃ s : State,
    s.sized = true ∧ s.quiet = true ∧ s.psr.s = true :=
  ⟨core 0 0, by decide⟩

theorem witness_WriteSpecialRegisters : ∃ (s : State) (rs1 : Reg) (src : Operand2) (v : Word),
    s.quiet = true ∧ v = s.reg rs1 ^^^ s.operand2 src ∧ s.psr.s = true :=
  ⟨core 0xFFFFFFFF 1, 1, .reg 0 2, 0xFFFFFFFE, by decide⟩

theorem witness_WritePsr_user : ∃ (s : State) (rs1 : Reg) (src : Operand2) (v : Word),
    v = s.reg rs1 ^^^ s.operand2 src ∧ s.psr.s = false :=
  ⟨user (core 0 0), 1, .imm 0, 0, by decide⟩

theorem witness_WritePsr_window : ∃ (s : State) (rs1 : Reg) (src : Operand2) (v : Word),
    v = s.reg rs1 ^^^ s.operand2 src ∧ s.psr.s = true ∧ s.cfg.nwin ≤ v.toNat % 32 :=
  ⟨core 8 0, 1, .imm 0, 8, by decide⟩

theorem witness_WritePsr_writes : ∃ (s : State) (rs1 : Reg) (src : Operand2) (v : Word),
    v = s.reg rs1 ^^^ s.operand2 src ∧ s.psr.s = true ∧ v.toNat % 32 < s.cfg.nwin ∧ s.quietWith (v.getLsbD 5) (v.extractLsb' 8 4) = true :=
  ⟨core 0xFFFFFFE7 0, 1, .imm 0, 0xFFFFFFE7, by decide⟩

theorem witness_UserModeRaisesPrivileged : ∃ s : State,
    s.psr.s = false :=
  ⟨user (core 0 0), by decide⟩

theorem witness_AncillaryRegistersTrap_supervisor : ∃ (s : State) (t : Trap),
    t = (if s.psr.s then .illegalInstruction else .privilegedInstruction) ∧ s.canEnter t = true ∧ s.cfg.implUnlisted = .illegal :=
  ⟨enabled (core 0 0), .illegalInstruction, by decide⟩

theorem witness_AncillaryRegistersTrap_user : ∃ (s : State) (t : Trap),
    t = (if s.psr.s then .illegalInstruction else .privilegedInstruction) ∧ s.canEnter t = true ∧ s.cfg.implUnlisted = .illegal :=
  ⟨enabled (user (core 0 0)), .privilegedInstruction, by decide⟩

theorem witness_CarryForms : ∃ (s : State) (rs1 : Reg) (src : Operand2) (a b r d : Word) (k : Nat),
    s.sized = true ∧ s.quiet = true ∧ s.cfg.implUnlisted = .v8 ∧ a = s.reg rs1 ∧ b = s.operand2 src ∧ k = s.psr.icc.c.toNat ∧
      r = BitVec.ofNat 32 (a.toNat + b.toNat + k) ∧ d = BitVec.ofInt 32 (a.toNat - b.toNat - k) :=
  ⟨flags false false false true (v8 (core 0xFFFFFFFF 0xFFFFFFFF)), 1, .reg 0 2, 0xFFFFFFFF, 0xFFFFFFFF, 0xFFFFFFFF, 0xFFFFFFFF, 1, by decide⟩

theorem witness_TaggedForms_trap : ∃ (s : State) (rs1 : Reg) (src : Operand2) (a b : Word) (tag va vs : Bool),
    s.cfg.implUnlisted = .v8 ∧ a = s.reg rs1 ∧ b = s.operand2 src ∧ tag = decide (a.toNat % 4 ≠ 0 ∨ b.toNat % 4 ≠ 0) ∧
      va = (decide (a.toInt + b.toInt < -2 ^ 31 ∨ 2 ^ 31 ≤ a.toInt + b.toInt) || tag) ∧
      vs = (decide (a.toInt - b.toInt < -2 ^ 31 ∨ 2 ^ 31 ≤ a.toInt - b.toInt) || tag) ∧ va = true ∧ vs = true :=
  ⟨v8 (core 1 4), 1, .reg 0 2, 1, 4, true, true, true, by decide⟩

theorem witness_TaggedForms_result : ∃ (s : State) (rs1 : Reg) (src : Operand2) (a b : Word) (tag va vs : Bool) (fa fs : Icc),
    s.cfg.implUnlisted = .v8 ∧ a = s.reg rs1 ∧ b = s.operand2 src ∧ tag = decide (a.toNat % 4 ≠ 0 ∨ b.toNat % 4 ≠ 0) ∧
      va = (decide (a.toInt + b.toInt < -2 ^ 31 ∨ 2 ^ 31 ≤ a.toInt + b.toInt) || tag) ∧
      vs = (decide (a.toInt - b.toInt < -2 ^ 31 ∨ 2 ^ 31 ≤ a.toInt - b.toInt) || tag) ∧ s.sized = true ∧ s.quiet = true ∧ va = false ∧ vs = false ∧
      fa = { n := (a + b).msb, z := decide (a + b = 0), v := va, c := decide (2 ^ 32 ≤ a.toNat + b.toNat) } ∧
      fs = { n := (a - b).msb, z := decide (a - b = 0), v := vs, c := decide (a.toNat < b.toNat) } :=
  ⟨v8 (core 4 4), 1, .reg 0 2, 4, 4, false, false, false, icc false false false false, icc false true false false, by decide⟩

theorem witness_OrderingNoOperations : ∃ s : State,
    s.quiet = true ∧ s.cfg.implUnlisted = .v8 :=
  ⟨v8 (core 0 0), by decide⟩

theorem witness_AtomicForms_misaligned : ∃ (s : State) (rs1 : Reg) (src : Operand2) (ea : Word),
    s.cfg.implUnlisted = .v8 ∧ ea = s.reg rs1 + s.operand2 src ∧ ea.toNat % 4 ≠ 0 :=
  ⟨v8 (core 0x1002 0), 1, .imm 0, 0x1002, by decide⟩

theorem witness_AtomicForms_runs : ∃ (s : State) (rs1 : Reg) (src : Operand2) (ea : Word),
    s.cfg.implUnlisted = .v8 ∧ ea = s.reg rs1 + s.operand2 src ∧ s.sized = true ∧ s.quiet = true ∧ Memory.wf s.mem = true ∧ ea.toNat % 4 = 0 ∧
      s.portFaults .read ea 1 = false ∧ s.portFaults .write ea 1 = false ∧ s.portFaults .read ea 4 = false ∧ s.portFaults .write ea 4 = false :=
  ⟨v8 (core 0xFFFFFFFC 0), 1, .imm 0, 0xFFFFFFFC, by decide⟩

theorem witness_UnlistedByDefault : ∃ s : State,
    s.cfg.implUnlisted = .illegal :=
  ⟨core 0 0, by decide⟩

theorem witness_InvalidRowsEnterIllegalInstruction_enters : ∃ s : State,
    s.canEnter .illegalInstruction = true ∧ s.cfg.implUnlisted = .v8 :=
  ⟨enabled (user (v8 (core 0 0))), by decide⟩

theorem witness_InvalidRowsEnterIllegalInstruction_error : ∃ s : State,
    s.selects .illegalInstruction = true ∧ s.psr.et = false ∧ s.cfg.implUnlisted = .v8 :=
  ⟨v8 (core 0 0), by decide⟩

/-- A tie of priority. -/
theorem witness_TrapSelection : ∃ (s : State) (t u : Trap),
    s.selectTrap = some t ∧ Trap.isInterrupt t = false ∧ Trap.accepted s.cfg u = true ∧ s.isPending u = true ∧ s.eligible u = true ∧ u ≠ t :=
  ⟨((core 0 0).raise .windowUnderflow).raise .windowOverflow, .windowOverflow, .windowUnderflow, by decide⟩

theorem witness_TrapEntrySequence_plain : ∃ (e : State) (t : Trap),
    e.sized = true ∧ e.selectTrap = some t ∧ t ≠ .reset ∧ (Trap.isInterrupt t = true ∨ e.psr.et = true) ∧
      e.portFaults .fetch (e.tbr.tba ++ Trap.tt t ++ 0#4) 4 = false ∧ e.annul = false :=
  ⟨enabled ((core 0 0).raise .windowOverflow), .windowOverflow, by decide⟩

theorem witness_TrapEntrySequence_annul : ∃ (e : State) (t : Trap),
    e.sized = true ∧ e.selectTrap = some t ∧ t ≠ .reset ∧ (Trap.isInterrupt t = true ∨ e.psr.et = true) ∧
      e.portFaults .fetch (e.tbr.tba ++ Trap.tt t ++ 0#4) 4 = false ∧ e.annul = true ∧ e.portFaults .fetch e.npc2 4 = false :=
  ⟨((core 0 0).raise (.interruptLevel 1)).setAnnul, .interruptLevel 1, by decide⟩

/-- A level-15 interrupt is entered after WRY. -/
theorem witness_InterruptAfterAdd_plain : ∃ (i : Instr) (s e : State) (level : BitVec 4), exec i s = e.complete ∧
    s.sized = true ∧ e.selectTrap = some (.interruptLevel level) ∧
      e.portFaults .fetch (e.tbr.tba ++ (0x1#4 ++ level) ++ 0#4) 4 = false ∧ e.annul = false ∧ i.writesPsr = false ∧ e.selectTrap = s.selectTrap :=
  ⟨.wry 1 (.imm 0), (core 5 0).raise (.interruptLevel 15), ((core 5 0).raise (.interruptLevel 15)).setY 5, 15, rfl, by decide, by decide, by decide, by decide, by decide, by decide⟩

/-- BN,A annuls its delay slot, and the interrupt is entered after the fix-up. -/
theorem witness_InterruptAfterAdd_annul : ∃ (i : Instr) (s e : State) (level : BitVec 4), exec i s = e.complete ∧
    s.sized = true ∧ e.selectTrap = some (.interruptLevel level) ∧
      e.portFaults .fetch (e.tbr.tba ++ (0x1#4 ++ level) ++ 0#4) 4 = false ∧ e.annul = true ∧ e.portFaults .fetch e.npc2 4 = false ∧ s.cfg.irqGating = .doc :=
  ⟨.bn true 4, (core 0 0).raise (.interruptLevel 1), ((core 0 0).raise (.interruptLevel 1)).setAnnul, 1, rfl, by decide, by decide, by decide, by decide, by decide, by decide⟩

theorem witness_InterruptAfterAdd_add : ∃ (s : State) (level : BitVec 4),
    s.sized = true ∧ s.annul = false ∧ s.selectTrap = some (.interruptLevel level) ∧
      s.portFaults .fetch (s.tbr.tba ++ (0x1#4 ++ level) ++ 0#4) 4 = false :=
  ⟨(core 0 0).raise (.interruptLevel 15), 15, by decide⟩

theorem witness_ErrorMode_raised : ∃ (s : State) (t : Trap),
    Trap.synchronous t = true ∧ s.selects t = true ∧ s.psr.et = false :=
  ⟨core 0 0, .divisionByZero, by decide⟩

theorem witness_ErrorMode_pending : ∃ (s : State) (t : Trap),
    s.annul = false ∧ s.selectTrap = some t ∧ t ≠ .reset ∧ Trap.isInterrupt t = false ∧ s.psr.et = false :=
  ⟨(core 0 0).raise .dataAccessException, .dataAccessException, by decide⟩

theorem witness_ErrorMode_status : ∃ s : State,
    s.status = .error :=
  ⟨(core 0 0).errorMode, by decide⟩

theorem witness_ResetTrap_plain : ∃ e : State,
    e.selectTrap = some .reset ∧ e.portFaults .fetch e.bootEntry 4 = false ∧ e.annul = false :=
  ⟨(core 0 0).raise .reset, by decide⟩

theorem witness_ResetTrap_annul : ∃ e : State,
    e.selectTrap = some .reset ∧ e.portFaults .fetch e.bootEntry 4 = false ∧ e.annul = true ∧ e.portFaults .fetch e.npc2 4 = false :=
  ⟨((core 0 0).raise .reset).setAnnul, by decide⟩

theorem witness_BootResult_aligned : ∃ (s : State) (e : Word),
    e.toNat % 4 = 0 ∧ s.portFaults .fetch e 4 = false :=
  ⟨core 0 0, 0xFFFFFFFC, by decide⟩

theorem witness_BootResult_misaligned : ∃ e : Word,
    e.toNat % 4 ≠ 0 :=
  ⟨0xFFFFFFFF, by decide⟩

theorem witness_RaiseAcceptsTheTable : ∃ s : State,
    s.stage = .boundary :=
  ⟨core 0 0, by decide⟩

end Sys2Proof.Tests
end

section
/-! The statements of 00_scope.md: one trap for each instruction (R13), and who writes memory and the globals (R26, R221). Both follow from `exec_leads`, read for the outcome of one instruction and for the state it ends in. -/

namespace Sys2Proof.Machine

/-- `Leads` read for its first result: a port Fault, one trap raised on the unchanged state, or the completion of an effect. -/
theorem Leads.outcome {r : Rights} {s : State} {p : BitVec 256} {k k' : Result} (h : Leads r s p k k') :
    (∃ kind a n, k = .fault (.hardFault kind a n)) ∨
    (∃ t, Trap.synchronous t = true ∧ Trap.accepted s.cfg t = true ∧ Raises k s t) ∨
    ∃ e, Effect r s e ∧ k = e.complete := by
  cases h with
  | fault kind a n => exact .inl ⟨kind, a, n, rfl⟩
  | trap t hsync hacc => exact .inr (.inl ⟨t, hsync, hacc, rfl⟩)
  | done e he => exact .inr (.inr ⟨e, he, rfl⟩)

/-- An instruction without a store's right leaves the memory, in a trap entry too: raising and stages 4 to 6 do not write it. -/
theorem exec_next_mem {i : Instr} {s t : State} (h : exec i s = .next t) (hw : i.writesMemory = false) : t.mem = s.mem := by
  rcases exec_next h with ⟨tr, -, -, hc⟩ | ⟨e, he, hc⟩
  · calc t.mem = (s.raise tr).mem := (State.complete_frame hc).mem
      _ = s.mem := State.raise_mem s tr
  · calc t.mem = e.mem := (State.complete_frame hc).mem
      _ = s.mem := he.mem hw

/-- A global that is no destination keeps its value, whatever window the instruction or the trap entry moves to. -/
theorem exec_next_global {i : Instr} {s t : State} (h : exec i s = .next t) {g : Reg} (hg : g.toNat < 8) (hd : g ∉ i.destinations) :
    t.reg g = s.reg g := by
  rcases exec_next h with ⟨tr, -, -, hc⟩ | ⟨e, he, hc⟩
  · calc t.reg g = (s.raise tr).reg g := (State.complete_frame hc).globals g hg
      _ = s.reg g := State.reg_congr_global rfl rfl rfl hg
  · calc t.reg g = e.reg g := (State.complete_frame hc).globals g hg
      _ = s.reg g := he.globals g hg hd

theorem sameBytes_of_mem {s t : State} (h : t.mem = s.mem) : SameBytes s t := fun a => by rw [State.byteAt, State.byteAt, h]

end Sys2Proof.Machine

open Sys2Proof.Machine

/-- Settles O9: the execute stage's three ends (`exec_leads`), where an effect leaves the pending set, the status, pc and npc. -/
theorem oneTrapPerInstruction : Obligations.OneTrapPerInstruction := by
  intro i s
  rcases (exec_leads i s s.pending).outcome with hfault | ⟨t, hsync, -, hraises⟩ | ⟨e, he, hexec⟩
  · exact .inl hfault
  · exact .inr (.inl ⟨t, hsync, hraises⟩)
  · exact .inr (.inr ⟨e, hexec, he.pending, he.status, he.pc, he.npc⟩)

/-- Settles O11: neither the effect that the instruction's row allows nor stages 4 to 6 write other memory or globals. -/
theorem memoryAndGlobalWriters : Obligations.MemoryAndGlobalWriters := by
  intro i s t h
  exact ⟨fun hw => sameBytes_of_mem (exec_next_mem h hw), fun _ hg hd => exec_next_global h hg hd⟩

end

section
/-! The invariant of a step boundary (10_state.md R20, R25, R31, R35, R46, R48): reset meets it and every step keeps it. `State.Ready` is the part of it that holds between the stages of a step too; an execute stage keeps `Ready`, and each way stages 4 to 6 can end brings back the rest. -/

namespace Sys2Proof.Machine

/-- Only ids the core accepts are in the pending set `p` (10_state.md R48). -/
def OnlyAccepted (cfg : Config) (p : BitVec 256) : Prop :=
  ∀ tt : BitVec 8, p.getLsbD tt.toNat = true → ∃ t, Trap.ofTt tt = some t ∧ Trap.accepted cfg t = true

theorem OnlyAccepted.zero (cfg : Config) : OnlyAccepted cfg 0 := fun _ h => by simp at h

theorem OnlyAccepted.raise {cfg : Config} {p : BitVec 256} (h : OnlyAccepted cfg p) {t : Trap} (ha : Trap.accepted cfg t = true) :
    OnlyAccepted cfg (p ||| pendingBit t) := by
  intro tt hb
  rw [BitVec.getLsbD_or, pendingBit_getLsbD, Bool.or_eq_true, decide_eq_true_eq] at hb
  rcases hb with hb | hb
  · exact h tt hb
  · rw [BitVec.eq_of_toNat_eq hb]
    exact ⟨t, Trap.ofTt_tt t, ha⟩

theorem OnlyAccepted.acknowledge {cfg : Config} {p : BitVec 256} (h : OnlyAccepted cfg p) (t : Trap) :
    OnlyAccepted cfg (p &&& ~~~pendingBit t) := by
  intro tt hb
  rw [BitVec.getLsbD_and, Bool.and_eq_true] at hb
  exact h tt hb.1

/-- The invariant without its clauses about the boundary itself: what holds between the stages of a step too. -/
structure State.Ready (s : State) : Prop where
  sized : s.sized = true
  wim : s.wim &&& ~~~wimMask s.cfg.nwin = 0
  pc : aligned4 s.pc = true
  npc : aligned4 s.npc = true
  npc2 : aligned4 s.npc2 = true
  pending : OnlyAccepted s.cfg s.pending
  bootEntry : aligned4 s.bootEntry = true
  mem : Memory.wf s.mem = true

theorem State.Inv.ready {s : State} (h : s.Inv) : s.Ready :=
  ⟨h.sized, h.wim, h.pc, h.npc, h.npc2, h.pending, h.bootEntry, h.mem⟩

theorem State.Ready.inv {s : State} (h : s.Ready) (hnext : s.status = .normal → s.npc2 = s.npc + 4) (hannul : s.annul = false)
    (hstage : s.stage = .boundary) : s.Inv :=
  ⟨h.sized, h.wim, h.pc, h.npc, h.npc2, hnext, hannul, h.pending, h.bootEntry, h.mem, hstage⟩

/-! ### The execute stage -/

/-- Stages 1 and 2 write slot 1, the latch and the stage only. -/
theorem State.Ready.fetchAndDecode {s : State} (h : s.Ready) (word : Word) (d : Decoded) :
    State.Ready { s with slot1 := word, dec := d, stage := .decoded } :=
  ⟨h.sized, h.wim, h.pc, h.npc, h.npc2, h.pending, h.bootEntry, h.mem⟩

theorem State.Ready.raise {s : State} (h : s.Ready) {t : Trap} (ha : Trap.accepted s.cfg t = true) : (s.raise t).Ready :=
  ⟨h.sized, h.wim, h.pc, h.npc, h.npc2, h.pending.raise ha, h.bootEntry, h.mem⟩

theorem Effect.ready {r : Rights} {s e : State} (he : Effect r s e) (h : s.Ready) : e.Ready where
  sized := he.sized h.sized
  wim := by rw [he.cfg]; exact he.wimBits h.wim
  pc := by rw [he.pc]; exact h.pc
  npc := by rw [he.npc]; exact h.npc
  npc2 := he.target h.pc h.npc2
  pending := by rw [he.cfg, he.pending]; exact h.pending
  bootEntry := by rw [he.bootEntry]; exact h.bootEntry
  mem := he.wf h.mem

/-! ### Stages 4 to 6 -/

theorem State.Ready.fixedUp {s : State} (h : s.Ready) : s.fixedUp.Ready := by
  unfold State.fixedUp
  split_ifs
  · exact ⟨h.sized, h.wim, h.pc, h.npc2, (aligned4_add h.npc2).1, h.pending, h.bootEntry, h.mem⟩
  · exact h

theorem State.Ready.advance {s : State} (h : s.Ready) (ha : s.annul = false) : s.advance.Inv :=
  State.Ready.inv ⟨h.sized, h.wim, h.npc, h.npc2, (aligned4_add h.npc2).1, h.pending, h.bootEntry, h.mem⟩ (fun _ => rfl) ha rfl

theorem add_four_add_four (a : Word) : a + 8 = a + 4 + 4 := by rw [BitVec.add_assoc]; rfl

theorem State.Ready.booted {s : State} (h : s.Ready) (word : Word) : (s.booted s.bootEntry word).Inv :=
  State.Ready.inv ⟨h.sized, h.wim, h.bootEntry, (aligned4_add h.bootEntry).1, (aligned4_add h.bootEntry).2, .zero _, h.bootEntry, h.mem⟩
    (fun _ => add_four_add_four _) rfl rfl

theorem State.sized_enterTrap {s : State} (h : s.sized = true) (t : Trap) (word : Word) : (s.enterTrap t word).sized = true := by
  obtain ⟨hn, hg, hw, -⟩ := s.sized_iff.1 h
  rw [State.sized_iff]
  simpa [hg, hw, hn, trapPsr] using s.prevWindow_lt_of_sized h

theorem State.Ready.enterTrap {s : State} (h : s.Ready) (ha : s.annul = false) (t : Trap) (word : Word) : (s.enterTrap t word).Inv := by
  have hv := trapVector_aligned s.tbr.tba t
  refine State.Ready.inv ⟨State.sized_enterTrap h.sized t word, ?_, ?_, ?_, ?_, ?_, ?_, ?_⟩ ?_ ?_ ?_
  · simpa using h.wim
  · simpa using hv
  · simpa using (aligned4_add hv).1
  · simpa using (aligned4_add hv).2
  · simpa using h.pending.acknowledge t
  · simpa using h.bootEntry
  · simpa using h.mem
  · simpa using fun _ => add_four_add_four _
  · simpa using ha
  · simp

theorem State.Ready.errorMode {s : State} (h : s.Ready) (ha : s.annul = false) : s.errorMode.Inv :=
  State.Ready.inv ⟨h.sized, h.wim, h.pc, h.npc, h.npc2, h.pending, h.bootEntry, h.mem⟩ (fun hn => by simp at hn) ha rfl

/-- Whichever way stages 4 to 6 end, the next state is at a boundary. -/
theorem State.Ready.complete {s u : State} (h : s.Ready) (hc : s.complete = .next u) : u.Inv := by
  have hf := h.fixedUp
  obtain ⟨-, -, -, -, -, -, -, -, -, -, -, -, ha⟩ := s.fixedUp_frame
  rcases State.arbitrate_next (State.complete_next hc) with ⟨-, rfl⟩ | ⟨-, rfl⟩ | ⟨t, -, -, -, rfl⟩ | ⟨t, -, -, -, -, rfl⟩
  · exact hf.advance ha
  · exact hf.booted _
  · exact hf.enterTrap ha t _
  · exact hf.errorMode ha

theorem State.Ready.execDecoded {s u : State} (h : s.Ready) {d : Decoded} (hd : execDecoded d s = .next u) : u.Inv := by
  rcases execDecoded_next hd with ⟨t, -, hacc, hc⟩ | ⟨i, e, he, hc⟩
  · exact (h.raise hacc).complete hc
  · exact (he.ready h).complete hc

end Sys2Proof.Machine

open Sys2Proof.Machine

/-- Settles O8: a step that answers is nothing, in error mode, or the execution of the staged word from a `Ready` state. -/
theorem stepKeepsInvariant : Obligations.StepKeepsInvariant := by
  intro s t hs h
  rcases step_next h with ⟨-, rfl⟩ | ⟨-, -, -, hexec⟩
  · exact hs
  · exact (hs.ready.fetchAndDecode _ _).execDecoded hexec

/-- Settles O7: every clause is about the literal state after reset. -/
theorem resetMeetsInvariant : Obligations.ResetMeetsInvariant where
  sized := by decide
  wim := by decide
  pc := by decide
  npc := by decide
  npc2 := by decide
  next _ := rfl
  annul := rfl
  pending := OnlyAccepted.zero _
  bootEntry := by decide
  mem := rfl
  stage := rfl

end

section
/-! Who writes the control state (10_state.md R25, R32 to R37, R346, R475). An instruction that answers a next state goes through stages 4 to 6 either from the state its effect left or from the state with its trap raised; `WithinRights` is what both have in common, and `Completed` says what stages 4 to 6 add. -/

namespace Sys2Proof.Machine

/-- WIM, TBR and the fields of PSR that user mode may not write (10_state.md R34). -/
structure SameControl (s e : State) : Prop where
  wim : e.wim = s.wim
  tbr : e.tbr = s.tbr
  pil : e.psr.pil = s.psr.pil
  supervisor : e.psr.s = s.psr.s
  ps : e.psr.ps = s.psr.ps
  et : e.psr.et = s.psr.et

/-- `e` is a state that an instruction with the rights `r` hands to stage 4: its effect's, or the one with its trap raised. -/
structure WithinRights (r : Rights) (s e : State) : Prop where
  cfg : e.cfg = s.cfg
  bootEntry : e.bootEntry = s.bootEntry
  reset : e.isPending .reset = s.isPending .reset
  icc : r.icc = false → e.psr.icc = s.psr.icc
  y : r.y = false → e.y = s.y
  wim : r.wim = false → e.wim = s.wim
  tba : r.tba = false → e.tbr.tba = s.tbr.tba
  pil : r.psr = false → e.psr.pil = s.psr.pil
  ps : r.psr = false → e.psr.ps = s.psr.ps
  et : r.mode = false → e.psr.et = s.psr.et
  cwp : r.cwp = false → e.psr.cwp = s.psr.cwp
  user : s.psr.s = false → SameControl s e
  demotion : r.psr = false → e.psr.s = false → s.psr.s = true → s.psr.ps = false ∧ r.mode = true

theorem tbr_eq {a b : Tbr} (htba : a.tba = b.tba) (htt : a.tt = b.tt) : a = b := by
  cases a; cases b; exact congr (congrArg Tbr.mk htba) htt

theorem Effect.withinRights {r : Rights} {s e : State} (h : Effect r s e) : WithinRights r s e where
  cfg := h.cfg
  bootEntry := h.bootEntry
  reset := by rw [State.isPending, State.isPending, h.pending]
  icc := h.icc
  y := h.y
  wim := h.wim
  tba := h.tba
  pil := h.pil
  ps := h.ps
  et hm := (h.mode hm).2
  cwp := h.cwp
  user hu := by
    obtain ⟨hs, hwim, htba, hpsr, het, hps⟩ := h.privilege hu
    exact ⟨h.wim hwim, tbr_eq (h.tba htba) h.tt, h.pil hpsr, hs.trans hu.symm, hps, het⟩
  demotion := h.demotion

/-- An instruction does not raise the reset trap. -/
theorem State.isPending_reset_raise (s : State) {t : Trap} (ht : Trap.synchronous t = true) :
    (s.raise t).isPending .reset = s.isPending .reset := by
  have hne : (Trap.tt .reset).toNat ≠ (Trap.tt t).toNat := fun he => by
    rw [← Trap.tt_injective (BitVec.eq_of_toNat_eq he)] at ht
    simp [Trap.synchronous] at ht
  simp [State.isPending, pendingBit_getLsbD, hne]

theorem State.withinRights_raise (r : Rights) (s : State) {t : Trap} (ht : Trap.synchronous t = true) : WithinRights r s (s.raise t) where
  cfg := rfl
  bootEntry := rfl
  reset := s.isPending_reset_raise ht
  icc _ := rfl
  y _ := rfl
  wim _ := rfl
  tba _ := rfl
  pil _ := rfl
  ps _ := rfl
  et _ := rfl
  cwp _ := rfl
  user _ := ⟨rfl, rfl, rfl, rfl, rfl, rfl⟩
  demotion _ hu hs := absurd (hs.symm.trans hu) (by decide)

theorem exec_withinRights {i : Instr} {s t : State} (h : exec i s = .next t) : ∃ e, WithinRights (rightsOf i) s e ∧ Completed e t := by
  rcases exec_next h with ⟨tr, hsync, -, hc⟩ | ⟨e, he, hc⟩
  · exact ⟨s.raise tr, s.withinRights_raise _ hsync, State.complete_frame hc⟩
  · exact ⟨e, he.withinRights, State.complete_frame hc⟩

/-- The same of the latch: Invalid only raises, for which the rights of UNIMP do. -/
theorem execDecoded_withinRights {d : Decoded} {s t : State} (h : execDecoded d s = .next t) :
    ∃ r e, WithinRights r s e ∧ Completed e t := by
  rcases execDecoded_next h with ⟨tr, hsync, -, hc⟩ | ⟨i, e, he, hc⟩
  · exact ⟨rightsOf (.unimp 0 0), s.raise tr, s.withinRights_raise _ hsync, State.complete_frame hc⟩
  · exact ⟨rightsOf i, e, he.withinRights, State.complete_frame hc⟩

/-- Only RETT and WRPSR may write the mode. -/
theorem rightsOf_mode {i : Instr} (h : (rightsOf i).mode = true) : i.writesPsr = true ∨ ∃ rd rs1 src, i = .rett rd rs1 src := by
  unfold rightsOf at h
  split at h
  · rename_i rd rs1 src
    exact .inr ⟨rd, rs1, src, rfl⟩
  · exact .inl rfl
  · cases h

/-- `t` is just after the entry of some trap: supervisor mode, traps disabled, pc at the vector (60_exceptions.md R466, R467). -/
def State.AtVector (t : State) : Prop :=
  t.psr.s = true ∧ t.psr.et = false ∧ ∃ tr : Trap, t.tbr.tt = Trap.tt tr ∧ t.pc = t.tbr.tba ++ Trap.tt tr ++ 0#4

/-- Stages 4 to 6 write CWP, PS, ET and TBR by the entry of a trap only. -/
theorem Completed.kept_or_entered {e t : State} (h : Completed e t) :
    (t.psr.cwp = e.psr.cwp ∧ t.psr.ps = e.psr.ps ∧ t.psr.et = e.psr.et ∧ t.tbr = e.tbr) ∨
    (t.psr = trapPsr e.cfg.nwin e.psr ∧ t.AtVector) := by
  rcases h.mode with ⟨hkept, -⟩ | ⟨tr, -, hpsr, htt, hpc⟩
  · exact .inl hkept
  · refine .inr ⟨hpsr, by rw [hpsr]; rfl, by rw [hpsr]; rfl, tr, htt, ?_⟩
    rw [hpc, h.tba]; rfl

/-- From user mode stages 4 to 6 reach supervisor mode by the entry of a trap or the reset trap only. -/
theorem Completed.promotion {e t : State} (h : Completed e t) (hu : e.psr.s = false) (ht : t.psr.s = true) :
    (∃ tr : Trap, t.tbr.tt = Trap.tt tr ∧ t.pc = e.tbr.tba ++ Trap.tt tr ++ 0#4 ∧ t.psr.et = false ∧ t.psr.ps = false) ∨
    (e.isPending .reset = true ∧ t.pc = e.bootEntry ∧ t.pending = 0 ∧ t.psr.et = e.psr.et ∧ t.psr.ps = e.psr.ps) := by
  rcases h.mode with ⟨⟨-, hps, het, -⟩, hs | ⟨hr, hpc, hp, -⟩⟩ | ⟨tr, -, hpsr, htt, hpc⟩
  · exact absurd (ht.symm.trans (hs.trans hu)) (by decide)
  · exact .inr ⟨hr, hpc, hp, het, hps⟩
  · exact .inl ⟨tr, htt, hpc, by rw [hpsr]; rfl, by rw [hpsr]; exact hu⟩

/-- Stages 4 to 6 do not lead down to user mode. -/
theorem Completed.user {e t : State} (h : Completed e t) (ht : t.psr.s = false) : e.psr.s = false := by
  rcases h.mode with ⟨-, hs | ⟨-, -, -, hs⟩⟩ | ⟨tr, -, hpsr, -, -⟩
  · exact hs.symm.trans ht
  · exact absurd (ht.symm.trans hs) (by decide)
  · rw [hpsr] at ht
    exact absurd ht (by simp [trapPsr])

end Sys2Proof.Machine

open Sys2Proof.Machine

/-- Settles O10: the instruction's rights for what it hands to stage 4, and trap entry for what stages 4 to 6 write. -/
theorem specialRegisterWriters : Obligations.SpecialRegisterWriters := by
  intro i s t h
  obtain ⟨e, he, hc⟩ := exec_withinRights h
  refine ⟨fun hr => hc.icc.trans (he.icc hr), fun hr => hc.y.trans (he.y hr), fun hr => hc.wim.trans (he.wim hr),
    fun hr => hc.tba.trans (he.tba hr), fun hr => hc.pil.trans (he.pil hr), fun hr => ?_, fun hr hrett => ?_, hc.cfg.trans he.cfg⟩
  · rcases hc.kept_or_entered with ⟨-, hps, -, -⟩ | ⟨-, hv⟩
    · exact .inl (hps.trans (he.ps hr))
    · exact .inr hv
  · have hmode : (rightsOf i).mode = false := Bool.eq_false_iff.2 fun hm => by
      rcases rightsOf_mode hm with hw | ⟨rd, rs1, src, rfl⟩
      · exact absurd (hr.symm.trans hw) (by decide)
      · exact hrett rd rs1 src rfl
    rcases hc.kept_or_entered with ⟨-, -, het, -⟩ | ⟨-, hv⟩
    · exact .inl (het.trans (he.et hmode))
    · exact .inr hv

/-- Settles O12: without the right to write CWP only trap entry moves the window. -/
theorem cwpWriters : Obligations.CwpWriters := by
  intro i s t hs h hr
  obtain ⟨e, he, hc⟩ := exec_withinRights h
  rcases hc.kept_or_entered with ⟨hcwp, -, -, -⟩ | ⟨hpsr, hv⟩
  · exact .inl (hcwp.trans (he.cwp hr))
  · refine .inr ⟨?_, hv⟩
    obtain ⟨⟨h2, h32⟩, -⟩ := s.sized_iff.1 hs
    calc t.psr.cwp.toNat = (prevWindow e.cfg.nwin e.psr.cwp).toNat := by rw [hpsr]; rfl
      _ = (prevWindow s.cfg.nwin s.psr.cwp).toNat := by rw [he.cfg, he.cwp hr]
      _ = (s.psr.cwp.toNat + s.cfg.nwin - 1) % s.cfg.nwin := prevWindow_toNat h2 h32 _

/-- Settles O13: in user mode an effect leaves all control state, so that a change of it is stages 4 to 6's; the way down is an effect's. -/
theorem privilegeBoundary : Obligations.PrivilegeBoundary := by
  constructor
  · intro s t hn hu h
    rcases step_next h with ⟨herr, -⟩ | ⟨-, -, -, hexec⟩
    · exact absurd (hn.symm.trans herr) (by decide)
    · obtain ⟨r, e, he, hc⟩ := execDecoded_withinRights hexec
      obtain ⟨hwim, htbr, hpil, hs, hps, het⟩ := he.user hu
      refine ⟨hc.wim.trans hwim, hc.tba.trans (congrArg Tbr.tba htbr), hc.pil.trans hpil, hc.cfg.trans he.cfg,
        hc.bootEntry.trans he.bootEntry, fun ht => ?_, fun ht => ?_⟩
      · rcases hc.kept_or_entered with ⟨-, hps', het', htbr'⟩ | ⟨-, hsup, -⟩
        · exact ⟨het'.trans het, hps'.trans hps, htbr'.trans htbr⟩
        · exact absurd (ht.symm.trans hsup) (by decide)
      · have hp := hc.promotion (hs.trans hu) ht
        rw [htbr, he.reset, he.bootEntry, het, hps] at hp
        exact hp
  · intro i s t h hsup ht
    obtain ⟨e, he, hc⟩ := exec_withinRights h
    cases hw : i.writesPsr with
    | true => exact .inl rfl
    | false =>
      obtain ⟨hps, hmode⟩ := he.demotion hw (hc.user ht) hsup
      exact .inr ⟨hps, (rightsOf_mode hmode).resolve_left (by simp [hw])⟩

end

section
/-! The window ring (10_state.md R23, R24, R27, R28, R322). The sum under the `mod` of `physSlot` wraps at most once, so that every fact about cells is linear arithmetic on `physSlot_eq`. -/

namespace Sys2Proof.Machine

theorem physSlot_eq {nwin : Nat} {w : BitVec 5} (hw : w.toNat < nwin) {i : Reg} (hi : 8 ≤ i.toNat) :
    physSlot nwin w i =
      if 16 * w.toNat + i.toNat - 8 < 16 * nwin then 16 * w.toNat + i.toNat - 8 else 16 * w.toNat + i.toNat - 8 - 16 * nwin := by
  have hlt := i.isLt
  unfold physSlot
  split_ifs with h
  · exact Nat.mod_eq_of_lt h
  · rw [Nat.mod_eq_sub_mod (by omega), Nat.mod_eq_of_lt (by omega)]

theorem regCell_windowed (nwin : Nat) (w : BitVec 5) {i : Reg} (hi : 8 ≤ i.toNat) : regCell nwin w i = .window (physSlot nwin w i) := by
  have h0 : i ≠ 0 := by rintro rfl; simp at hi
  rw [regCell, if_neg h0, if_neg (by omega)]

/-- A global's cell is no cell of the ring. -/
theorem regCell_ne_window (nwin : Nat) (w : BitVec 5) {g : Reg} (hg : g.toNat < 8) (k : Nat) : regCell nwin w g ≠ .window k := by
  unfold regCell
  split_ifs <;> simp

theorem succ_mod_of_lt {w nwin : Nat} (h : w < nwin) : (w + 1) % nwin = if w + 1 = nwin then 0 else w + 1 := by
  split_ifs with he
  · rw [he, Nat.mod_self]
  · exact Nat.mod_eq_of_lt (by omega)

theorem pred_mod_of_lt {w nwin : Nat} (h : w < nwin) : (w + nwin - 1) % nwin = if w = 0 then nwin - 1 else w - 1 := by
  split_ifs with he
  · rw [he, Nat.zero_add]
    exact Nat.mod_eq_of_lt (by omega)
  · rw [show w + nwin - 1 = w - 1 + nwin by omega, Nat.add_mod_right]
    exact Nat.mod_eq_of_lt (by omega)

/-- r(24+k) of a window is r(8+k) of the window above it (R24). -/
theorem regCell_in_eq_out_above {nwin : Nat} (h2 : 2 ≤ nwin) (h32 : nwin ≤ 32) {w : BitVec 5} (hw : w.toNat < nwin) {i o : Reg}
    (hi : 24 ≤ i.toNat) (ho : i.toNat = o.toNat + 16) : regCell nwin w i = regCell nwin (nextWindow nwin w) o := by
  have hn := nextWindow_toNat h2 h32 w
  rw [succ_mod_of_lt hw] at hn
  have hlt := i.isLt
  rw [regCell_windowed _ _ (by omega), regCell_windowed _ _ (by omega), physSlot_eq hw (by omega),
    physSlot_eq (nextWindow_lt h2 h32 w) (by omega), hn]
  congr 1
  split_ifs <;> omega

/-- A local's cell belongs to one window (R24). -/
theorem regCell_local_unique {nwin : Nat} {w w' : BitVec 5} (hw : w.toNat < nwin) (hw' : w'.toNat < nwin) {l i : Reg} (hl : 16 ≤ l.toNat)
    (hl' : l.toNat < 24) (h : regCell nwin w l = regCell nwin w' i) : w' = w ∧ i = l := by
  have hi : 8 ≤ i.toNat := by
    by_contra hlt
    exact regCell_ne_window nwin w' (not_le.1 hlt) _ (h.symm.trans (regCell_windowed nwin w (by omega)))
  rw [regCell_windowed _ _ (by omega), regCell_windowed _ _ hi, RegCell.window.injEq, physSlot_eq hw (by omega), physSlot_eq hw' hi] at h
  have hlt := i.isLt
  rw [← BitVec.toNat_inj, ← BitVec.toNat_inj]
  split_ifs at h <;> omega

/-- The only register from r16 up that shares its cell with one of the window below is an in, with two windows, where that window is also the one above (R24, R322). -/
theorem regCell_eq_below {nwin : Nat} (h2 : 2 ≤ nwin) (h32 : nwin ≤ 32) {w : BitVec 5} (hw : w.toNat < nwin) {i j : Reg}
    (hi : 16 ≤ i.toNat) (h : regCell nwin w i = regCell nwin (prevWindow nwin w) j) :
    nwin = 2 ∧ 24 ≤ i.toNat ∧ i.toNat = j.toNat + 16 := by
  have hp := prevWindow_toNat h2 h32 w
  rw [pred_mod_of_lt hw] at hp
  have hj : 8 ≤ j.toNat := by
    by_contra hlt
    exact regCell_ne_window nwin _ (not_le.1 hlt) _ (h.symm.trans (regCell_windowed nwin w (by omega)))
  rw [regCell_windowed _ _ (by omega), regCell_windowed _ _ hj, RegCell.window.injEq, physSlot_eq hw (by omega),
    physSlot_eq (prevWindow_lt h2 h32 w) hj, hp] at h
  have hilt := i.isLt
  have hjlt := j.isLt
  split_ifs at h <;> omega

theorem nextWindow_prevWindow {nwin : Nat} (h2 : 2 ≤ nwin) (h32 : nwin ≤ 32) {w : BitVec 5} (hw : w.toNat < nwin) :
    nextWindow nwin (prevWindow nwin w) = w := by
  have hp := prevWindow_toNat h2 h32 w
  rw [pred_mod_of_lt hw] at hp
  rw [← BitVec.toNat_inj, nextWindow_toNat h2 h32, succ_mod_of_lt (prevWindow_lt h2 h32 w), hp]
  split_ifs <;> omega

/-! ### SAVE and RESTORE -/

/-- The state a SAVE or RESTORE ends in when the window `w` it moves to is valid: `v` in x[rd] of that window, and the step's advance. -/
def State.movedTo (s : State) (w : BitVec 5) (rd : Reg) (v : Word) : State := ((s.setCwp w).setReg rd v).advance

theorem State.quiet_setCwp_setReg {s : State} (hq : s.quiet = true) (w : BitVec 5) (rd : Reg) (v : Word) :
    ((s.setCwp w).setReg rd v).quiet = true := by
  rw [← hq]
  apply State.quiet_congr <;> simp

theorem execSave_quiet {s : State} (hq : s.quiet = true) (hw : s.windowInvalid (prevWindow s.cfg.nwin s.psr.cwp) = false) (rd rs1 : Reg)
    (src : Operand2) : execSave rd rs1 src s = .next (s.movedTo (prevWindow s.cfg.nwin s.psr.cwp) rd (s.sum rs1 src)) := by
  simp only [execSave, hw, Bool.false_eq_true, if_false, State.finish]
  exact State.complete_quiet (State.quiet_setCwp_setReg hq _ rd _)

theorem execRestore_quiet {s : State} (hq : s.quiet = true) (hw : s.windowInvalid (nextWindow s.cfg.nwin s.psr.cwp) = false) (rd rs1 : Reg)
    (src : Operand2) : execRestore rd rs1 src s = .next (s.movedTo (nextWindow s.cfg.nwin s.psr.cwp) rd (s.sum rs1 src)) := by
  simp only [execRestore, hw, Bool.false_eq_true, if_false, State.finish]
  exact State.complete_quiet (State.quiet_setCwp_setReg hq _ rd _)

section
variable (s : State) (w : BitVec 5) (rd : Reg) (v : Word)

@[simp] theorem State.movedTo_cfg : (s.movedTo w rd v).cfg = s.cfg := by simp [State.movedTo]
@[simp] theorem State.movedTo_psr : (s.movedTo w rd v).psr = { s.psr with cwp := w } := by simp [State.movedTo]
@[simp] theorem State.movedTo_wim : (s.movedTo w rd v).wim = s.wim := by simp [State.movedTo]

theorem State.movedTo_quiet (h : s.quiet = true) : (s.movedTo w rd v).quiet = true := by
  rw [← State.quiet_setCwp_setReg h w rd v]
  apply State.quiet_congr <;> rfl

/-- Every cell but rd's of the window moved to is as before. -/
theorem State.readCell_movedTo_ne {c : RegCell} (h : c ≠ regCell s.cfg.nwin w rd) : (s.movedTo w rd v).readCell c = s.readCell c := by
  rw [State.movedTo, readCell_advance, State.setReg,
    State.readCell_writeCell_ne _ v (show c ≠ (s.setCwp w).cellOf rd from h)]
  exact State.readCell_congr rfl rfl c
end

/-- A register of the window `s` is in is as before SAVE and RESTORE when it is not RESTORE's rd and SAVE's rd was another cell. -/
theorem State.reg_movedTo_movedTo {s : State} (h2 : 2 ≤ s.cfg.nwin) {i rd rd' : Reg} {w : BitVec 5} {v v' : Word} (hi : i ≠ rd')
    (hc : s.cellOf i ≠ regCell s.cfg.nwin w rd) : ((s.movedTo w rd v).movedTo s.psr.cwp rd' v').reg i = s.reg i := by
  have hcell : ((s.movedTo w rd v).movedTo s.psr.cwp rd' v').cellOf i = s.cellOf i := by simp [State.cellOf]
  have hi' : s.cellOf i ≠ regCell (s.movedTo w rd v).cfg.nwin s.psr.cwp rd' := by
    rw [State.movedTo_cfg]
    exact fun he => hi (regCell_injective h2 he)
  rw [State.reg, hcell, State.readCell_movedTo_ne _ _ _ _ hi', State.readCell_movedTo_ne _ _ _ _ hc, State.reg]

/-- RESTORE after SAVE finds the window SAVE left, and completes when WIM is clear for it. -/
theorem execRestore_movedTo_prevWindow {s : State} (hs : s.sized = true) (hq : s.quiet = true) (hw : s.windowInvalid s.psr.cwp = false)
    (rd : Reg) (v : Word) (rd' rs1' : Reg) (src' : Operand2) :
    execRestore rd' rs1' src' (s.movedTo (prevWindow s.cfg.nwin s.psr.cwp) rd v) =
      .next ((s.movedTo (prevWindow s.cfg.nwin s.psr.cwp) rd v).movedTo s.psr.cwp rd'
        ((s.movedTo (prevWindow s.cfg.nwin s.psr.cwp) rd v).sum rs1' src')) := by
  obtain ⟨⟨h2, h32⟩, -, -, hcwp⟩ := s.sized_iff.1 hs
  have hback : nextWindow (s.movedTo (prevWindow s.cfg.nwin s.psr.cwp) rd v).cfg.nwin
      (s.movedTo (prevWindow s.cfg.nwin s.psr.cwp) rd v).psr.cwp = s.psr.cwp := by
    simpa using nextWindow_prevWindow h2 h32 hcwp
  have hr := execRestore_quiet (s.movedTo_quiet _ rd v hq) (by rw [hback]; simpa [State.windowInvalid] using hw) rd' rs1' src'
  rwa [hback] at hr

end Sys2Proof.Machine

open Sys2Proof.Machine

/-- Settles O41: the ring's arithmetic, clause by clause. -/
theorem windowOverlap : Obligations.WindowOverlap := by
  intro nwin w h2 h32 hw
  refine ⟨fun k hk => ?_, fun w' l i hw' hl hl' h => regCell_local_unique hw hw' hl hl' h, fun i hi => ?_⟩
  · have hin : (BitVec.ofNat 5 (24 + k)).toNat = 24 + k := by rw [BitVec.toNat_ofNat]; omega
    have hout : (BitVec.ofNat 5 (8 + k)).toNat = 8 + k := by rw [BitVec.toNat_ofNat]; omega
    exact regCell_in_eq_out_above h2 h32 hw (by omega) (by omega)
  · exact ⟨_, regCell_windowed nwin w hi, Nat.mod_lt _ (by omega)⟩

/-- Settles O40: RESTORE moves back to SAVE's window, where SAVE's rd names a cell only when it is a global or, with two windows, an in. -/
theorem saveThenRestore : Obligations.SaveThenRestore := by
  intro s rd rs1 rd' rs1' src src' hs hq hbelow hcur
  obtain ⟨⟨h2, h32⟩, -, -, hcwp⟩ := s.sized_iff.1 hs
  rw [← prevWindow_toNat h2 h32] at hbelow
  refine ⟨_, _, execSave_quiet hq hbelow rd rs1 src, execRestore_movedTo_prevWindow hs hq hcur rd _ rd' rs1' src', by simp,
    fun g hg hrd hrd' => ?_, fun l hl hl' hrd' => ?_, fun i hi hrd' hin => ?_⟩
  · refine State.reg_movedTo_movedTo h2 hrd' fun he => hrd ?_
    rw [State.cellOf, regCell_global _ _ (prevWindow s.cfg.nwin s.psr.cwp) hg] at he
    exact regCell_injective h2 he
  · refine State.reg_movedTo_movedTo h2 hrd' fun he => ?_
    obtain ⟨-, h24, -⟩ := regCell_eq_below h2 h32 hcwp hl he
    omega
  · refine State.reg_movedTo_movedTo h2 hrd' fun he => ?_
    obtain ⟨hn, -, hrd⟩ := regCell_eq_below h2 h32 hcwp (by omega) he
    exact hin hn hrd

end

section
/-! The special registers as words (10_state.md R33, R35, R36). A word is its fields appended, so at each of the 32 positions a bit of it is by computation the bit of the field that lies there. -/

namespace Sys2Proof.Machine

theorem State.setPsr_psrWord_getLsbD (s : State) (v : Word) {k : Nat} (hk : k < 32) :
    (s.setPsr (psrOfWord v)).psrWord.getLsbD k =
      if k < 12 ∨ (20 ≤ k ∧ k < 24) then v.getLsbD k
      else if k < 20 then false
      else if k < 28 then s.cfg.psrVer.getLsbD (k - 24) else s.cfg.psrImpl.getLsbD (k - 28) := by
  simp only [State.psrWord, State.setPsr_cfg, State.setPsr_psr, psrOfWord, bit, BitVec.getLsbD_append, BitVec.getLsbD_ofBool,
    BitVec.getLsbD_extractLsb', BitVec.getLsbD_zero]
  interval_cases k <;> rfl

theorem wimMask_getLsbD (nwin : Nat) {k : Nat} (hk : k < 32) : (wimMask nwin).getLsbD k = decide (k < nwin) := by
  rw [wimMask, BitVec.getLsbD_ofNat, Nat.testBit_two_pow_sub_one, decide_eq_true hk, Bool.true_and]

theorem State.setWim_wim_getLsbD (s : State) (v : Word) {k : Nat} (hk : k < 32) :
    (s.setWim v).wim.getLsbD k = (decide (k < s.cfg.nwin) && v.getLsbD k) := by
  rw [State.setWim_wim, BitVec.getLsbD_and, wimMask_getLsbD _ hk, Bool.and_comm]

theorem State.setTba_tbrWord_getLsbD (s : State) (v : Word) {k : Nat} (hk : k < 32) :
    (s.setTba v).tbrWord.getLsbD k = if 12 ≤ k then v.getLsbD k else if 4 ≤ k then s.tbr.tt.getLsbD (k - 4) else false := by
  simp only [State.tbrWord, State.setTba_tbr, BitVec.getLsbD_append, BitVec.getLsbD_extractLsb', BitVec.getLsbD_zero]
  interval_cases k <;> rfl

end Sys2Proof.Machine

open Sys2Proof.Machine

/-- Settles O45: PSR, WIM and TBR, each by its own bits. -/
theorem specialReadBack : Obligations.SpecialReadBack := by
  intro s v k hk
  exact ⟨s.setPsr_psrWord_getLsbD v hk, s.setWim_wim_getLsbD v hk, s.setTba_tbrWord_getLsbD v hk⟩

end

section
/-! The loads and stores of 43_loadstore.md. First one equation for each instruction, in terms of its effective address; then what an answered access leaves: a load writes its register, a store (`Stored`) is built byte by byte from `Stored.putByte`. -/

namespace Sys2Proof.Machine

/-! ### The instructions, by their effective address -/

/-- An access the port answers hands its value on (20_memory.md R60). -/
theorem State.thenPort_access_ok {s : State} {kind : Access} {a : Word} {n : Nat} {α : Type} (v : α) (k : α → Result)
    (h : s.portFaults kind a n = false) : thenPort (s.access kind a n v) k = k v := by
  rw [State.access_of_not v h]; rfl

section
variable (s : State) (a : Word) (rd : Reg) (k : Result)

theorem State.requireAligned2_eq : s.requireAligned (aligned2 a) k = if a.toNat % 2 = 0 then k else s.trap .memAddressNotAligned := by
  simp [State.requireAligned, aligned2_iff]

theorem State.requireAligned4_eq : s.requireAligned (aligned4 a) k = if a.toNat % 4 = 0 then k else s.trap .memAddressNotAligned := by
  simp [State.requireAligned, aligned4_iff]

theorem State.requireAligned8_eq : s.requireAligned (aligned8 a) k = if a.toNat % 8 = 0 then k else s.trap .memAddressNotAligned := by
  simp [State.requireAligned, aligned8_iff]

theorem State.requireEven_eq : s.requireEven rd k = if rd.toNat % 2 = 0 then k else s.trap .illegalInstruction := by
  rcases Nat.mod_two_eq_zero_or_one rd.toNat with h | h <;> simp [State.requireEven, oddReg_iff, h]
end

section
variable {s : State} {rd rs1 : Reg} {src : Operand2} {ea : Word} (hea : ea = s.reg rs1 + s.operand2 src)
include hea

theorem exec_ld : exec (.ld rd rs1 src) s =
    if ea.toNat % 4 = 0 then thenPort (s.read32 ea) (s.finish rd) else s.trap .memAddressNotAligned := by
  subst hea; exact State.requireAligned4_eq ..

theorem exec_ldub : exec (.ldub rd rs1 src) s = thenPort (s.read8 ea) fun v => s.finish rd (v.zeroExtend 32) := by
  subst hea; rfl

theorem exec_ldsb : exec (.ldsb rd rs1 src) s = thenPort (s.read8 ea) fun v => s.finish rd (v.signExtend 32) := by
  subst hea; rfl

theorem exec_lduh : exec (.lduh rd rs1 src) s =
    if ea.toNat % 2 = 0 then thenPort (s.read16 ea) fun v => s.finish rd (v.zeroExtend 32) else s.trap .memAddressNotAligned := by
  subst hea; exact State.requireAligned2_eq ..

theorem exec_ldsh : exec (.ldsh rd rs1 src) s =
    if ea.toNat % 2 = 0 then thenPort (s.read16 ea) fun v => s.finish rd (v.signExtend 32) else s.trap .memAddressNotAligned := by
  subst hea; exact State.requireAligned2_eq ..

theorem exec_ldd : exec (.ldd rd rs1 src) s =
    if rd.toNat % 2 = 0 then
      if ea.toNat % 8 = 0 then
        thenPort (s.read32 ea) fun v0 => thenPort (s.read32 (ea + 4)) fun v1 => ((s.setReg rd v0).setReg (rd + 1) v1).complete
      else s.trap .memAddressNotAligned
    else s.trap .illegalInstruction := by
  subst hea; rw [← State.requireAligned8_eq, ← State.requireEven_eq]; rfl

theorem exec_st : exec (.st rd rs1 src) s =
    if ea.toNat % 4 = 0 then thenPort (s.write32 ea (s.reg rd)) State.complete else s.trap .memAddressNotAligned := by
  subst hea; exact State.requireAligned4_eq ..

theorem exec_stb : exec (.stb rd rs1 src) s = thenPort (s.write8 ea ((s.reg rd).extractLsb' 0 8)) State.complete := by
  subst hea; rfl

theorem exec_sth : exec (.sth rd rs1 src) s =
    if ea.toNat % 2 = 0 then thenPort (s.write16 ea ((s.reg rd).extractLsb' 0 16)) State.complete
    else s.trap .memAddressNotAligned := by
  subst hea; exact State.requireAligned2_eq ..

theorem exec_std : exec (.std rd rs1 src) s =
    if rd.toNat % 2 = 0 then
      if ea.toNat % 8 = 0 then
        thenPort (s.write32 ea (s.reg rd)) fun e => thenPort (e.write32 (ea + 4) (s.reg (rd + 1))) State.complete
      else s.trap .memAddressNotAligned
    else s.trap .illegalInstruction := by
  subst hea; rw [← State.requireAligned8_eq, ← State.requireEven_eq]; rfl

/-! ### Loads -/

section
variable (hs : s.sized = true) (hq : s.quiet = true)
include hs hq

theorem givesReg_ld (ha : ea.toNat % 4 = 0) (hf : s.portFaults .read ea 4 = false) :
    GivesReg (exec (.ld rd rs1 src) s) s rd (s.wordAt ea) s.psr.icc s.y := by
  rw [exec_ld hea, if_pos ha, State.read32, State.thenPort_access_ok _ _ hf]
  exact givesReg_finish hs hq rd _

theorem givesReg_ldub (hf : s.portFaults .read ea 1 = false) :
    GivesReg (exec (.ldub rd rs1 src) s) s rd ((s.byteAt ea).zeroExtend 32) s.psr.icc s.y := by
  rw [exec_ldub hea, State.read8, State.thenPort_access_ok _ _ hf]
  exact givesReg_finish hs hq rd _

theorem givesReg_ldsb (hf : s.portFaults .read ea 1 = false) :
    GivesReg (exec (.ldsb rd rs1 src) s) s rd ((s.byteAt ea).signExtend 32) s.psr.icc s.y := by
  rw [exec_ldsb hea, State.read8, State.thenPort_access_ok _ _ hf]
  exact givesReg_finish hs hq rd _

theorem givesReg_lduh (ha : ea.toNat % 2 = 0) (hf : s.portFaults .read ea 2 = false) :
    GivesReg (exec (.lduh rd rs1 src) s) s rd ((s.halfAt ea).zeroExtend 32) s.psr.icc s.y := by
  rw [exec_lduh hea, if_pos ha, State.read16, State.thenPort_access_ok _ _ hf]
  exact givesReg_finish hs hq rd _

theorem givesReg_ldsh (ha : ea.toNat % 2 = 0) (hf : s.portFaults .read ea 2 = false) :
    GivesReg (exec (.ldsh rd rs1 src) s) s rd ((s.halfAt ea).signExtend 32) s.psr.icc s.y := by
  rw [exec_ldsh hea, if_pos ha, State.read16, State.thenPort_access_ok _ _ hf]
  exact givesReg_finish hs hq rd _
end
end

theorem State.wordAt_eq_ofNat (s : State) (a : Word) : s.wordAt a = BitVec.ofNat 32
    ((s.byteAt a).toNat * 2 ^ 24 + (s.byteAt (a + 1)).toNat * 2 ^ 16 + (s.byteAt (a + 2)).toNat * 2 ^ 8 + (s.byteAt (a + 3)).toNat) := by
  rw [← wordOfBytes_toNat, ← State.wordAt_eq, BitVec.ofNat_toNat, BitVec.setWidth_eq]

theorem State.halfAt_eq_ofNat (s : State) (a : Word) :
    s.halfAt a = BitVec.ofNat 16 ((s.byteAt a).toNat * 2 ^ 8 + (s.byteAt (a + 1)).toNat) := by
  rw [← State.halfAt_toNat, BitVec.ofNat_toNat, BitVec.setWidth_eq]

/-- The odd register of an even one's pair is above it and is not r0 (10_state.md R21). -/
theorem even_succ_ne {rd : Reg} (h : rd.toNat % 2 = 0) : rd + 1 ≠ rd ∧ rd + 1 ≠ 0 := by
  revert rd; decide

/-! ### Stores -/

theorem add_ofNat_add_ofNat (a : Word) (i j : Nat) : a + BitVec.ofNat 32 i + BitVec.ofNat 32 j = a + BitVec.ofNat 32 (i + j) := by
  rw [BitVec.ofNat_add, BitVec.add_assoc]

/-- `e` is `s` after a store of the `n` bytes of the number `v`, big-endian, from `a` on (20_memory.md R63), in canonical memory (log 4). -/
structure Stored (s e : State) (a : Word) (n v : Nat) : Prop where
  onlyMem : e = { s with mem := e.mem }
  wf : Memory.wf e.mem = true
  bytes : ∀ k, k < n → e.byteAt (a + BitVec.ofNat 32 k) = BitVec.ofNat 8 (v / 2 ^ (8 * (n - 1 - k)))
  others : ∀ b : Word, (∀ k, k < n → b ≠ a + BitVec.ofNat 32 k) → e.byteAt b = s.byteAt b

theorem Stored.refl {s : State} (hm : Memory.wf s.mem = true) (a : Word) : Stored s s a 0 0 :=
  ⟨rfl, hm, fun _ hk => absurd hk (Nat.not_lt_zero _), fun _ _ => rfl⟩

section
variable {s e : State} {a : Word} {n v : Nat}

/-- The next byte after a store makes it a store of one byte more. -/
theorem Stored.putByte (h : Stored s e a n v) (hn : n < 2 ^ 32) (b : Byte) :
    Stored s (e.putByte (a + BitVec.ofNat 32 n) b) a (n + 1) (v * 2 ^ 8 + b.toNat) where
  onlyMem := by rw [h.onlyMem]; rfl
  wf := e.wf_putByte _ b h.wf
  bytes k hk := by
    rcases Nat.lt_succ_iff_lt_or_eq.1 hk with hlt | rfl
    · have hdiv : (v * 2 ^ 8 + b.toNat) / 2 ^ 8 = v := by omega
      rw [e.byteAt_putByte_ne b (add_ofNat_ne a (by omega) hn (by omega)), h.bytes k hlt,
        show 8 * (n + 1 - 1 - k) = 8 + 8 * (n - 1 - k) by omega, Nat.pow_add, ← Nat.div_div_eq_div_mul, hdiv]
    · rw [e.byteAt_putByte_self _ b h.wf]
      apply BitVec.eq_of_toNat_eq
      simpa using (Nat.mod_eq_of_lt b.isLt).symm
  others c hc := by
    rw [e.byteAt_putByte_ne b (hc n (Nat.lt_succ_self n)), h.others c fun k hk => hc k (Nat.lt_succ_of_lt hk)]

theorem Stored.putHalf (h : Stored s e a n v) (hn : n + 1 < 2 ^ 32) (w : BitVec 16) :
    Stored s (e.putHalf (a + BitVec.ofNat 32 n) w) a (n + 2) (v * 2 ^ 16 + w.toNat) := by
  have h2 := (h.putByte (by omega) (w.extractLsb' 8 8)).putByte hn (w.extractLsb' 0 8)
  have hv : (v * 2 ^ 8 + (w.extractLsb' 8 8).toNat) * 2 ^ 8 + (w.extractLsb' 0 8).toNat = v * 2 ^ 16 + w.toNat := by
    simp only [BitVec.extractLsb'_toNat, Nat.shiftRight_eq_div_pow]
    omega
  rw [hv] at h2
  rw [State.putHalf, show a + BitVec.ofNat 32 n + 1 = _ from add_ofNat_add_ofNat a n 1]
  exact h2

theorem Stored.putWord (h : Stored s e a n v) (hn : n + 3 < 2 ^ 32) (w : Word) :
    Stored s (e.putWord (a + BitVec.ofNat 32 n) w) a (n + 4) (v * 2 ^ 32 + w.toNat) := by
  have h4 := (((h.putByte (by omega) (w.extractLsb' 24 8)).putByte (by omega) (w.extractLsb' 16 8)).putByte (by omega)
    (w.extractLsb' 8 8)).putByte hn (w.extractLsb' 0 8)
  have hv : (((v * 2 ^ 8 + (w.extractLsb' 24 8).toNat) * 2 ^ 8 + (w.extractLsb' 16 8).toNat) * 2 ^ 8 + (w.extractLsb' 8 8).toNat) * 2 ^ 8
      + (w.extractLsb' 0 8).toNat = v * 2 ^ 32 + w.toNat := by
    simp only [BitVec.extractLsb'_toNat, Nat.shiftRight_eq_div_pow]
    omega
  rw [hv] at h4
  rw [State.putWord, show a + BitVec.ofNat 32 n + 1 = _ from add_ofNat_add_ofNat a n 1,
    show a + BitVec.ofNat 32 n + 2 = _ from add_ofNat_add_ofNat a n 2, show a + BitVec.ofNat 32 n + 3 = _ from add_ofNat_add_ofNat a n 3]
  exact h4

end

section
variable {s : State} (hm : Memory.wf s.mem = true) (a : Word)
include hm

theorem stored_putByte (b : Byte) : Stored s (s.putByte a b) a 1 b.toNat := by
  simpa using (Stored.refl hm a).putByte (by norm_num) b

theorem stored_putHalf (w : BitVec 16) : Stored s (s.putHalf a w) a 2 w.toNat := by
  simpa using (Stored.refl hm a).putHalf (by norm_num) w

theorem stored_putWord (w : Word) : Stored s (s.putWord a w) a 4 w.toNat := by
  simpa using (Stored.refl hm a).putWord (by norm_num) w

theorem stored_putWord_putWord (w0 w1 : Word) :
    Stored s ((s.putWord a w0).putWord (a + 4) w1) a 8 (w0.toNat * 2 ^ 32 + w1.toNat) :=
  (stored_putWord hm a w0).putWord (by norm_num) w1

end

namespace Stored
variable {s e : State} {a : Word} {n v : Nat} (h : Stored s e a n v)
include h

/-- A store writes memory only. -/
theorem keeps : Keeps s e := by
  rw [h.onlyMem]; constructor <;> rfl

theorem sized : e.sized = s.sized := by
  rw [h.onlyMem]; rfl

theorem complete (hq : s.quiet = true) : e.complete = .next e.advance := State.complete_quiet (h.keeps.quiet hq)

theorem givesStore (hq : s.quiet = true) : GivesStore e.complete s a n v := by
  have hnpc2 : e.npc2 = s.npc2 := by rw [h.onlyMem]
  obtain ⟨hc, hp⟩ := proceeds_of h.keeps (h.keeps.quiet hq) hnpc2
  refine ⟨e.advance, hc, hp, fun c => ?_, ?_, h.bytes, h.others⟩
  · rw [readCell_advance, h.onlyMem]
    exact State.readCell_congr rfl rfl c
  · rw [h.onlyMem]
    exact ⟨rfl, rfl, rfl, rfl⟩

end Stored

/-! ### The answered stores -/

section
variable {s : State} {rd rs1 : Reg} {src : Operand2} {ea : Word} (hea : ea = s.reg rs1 + s.operand2 src)
include hea

theorem exec_st_answered (ha : ea.toNat % 4 = 0) (hf : s.portFaults .write ea 4 = false) :
    exec (.st rd rs1 src) s = (s.putWord ea (s.reg rd)).complete := by
  rw [exec_st hea, if_pos ha, State.write32, State.thenPort_access_ok _ _ hf]

theorem exec_stb_answered (hf : s.portFaults .write ea 1 = false) :
    exec (.stb rd rs1 src) s = (s.putByte ea ((s.reg rd).extractLsb' 0 8)).complete := by
  rw [exec_stb hea, State.write8, State.thenPort_access_ok _ _ hf]

theorem exec_sth_answered (ha : ea.toNat % 2 = 0) (hf : s.portFaults .write ea 2 = false) :
    exec (.sth rd rs1 src) s = (s.putHalf ea ((s.reg rd).extractLsb' 0 16)).complete := by
  rw [exec_sth hea, if_pos ha, State.write16, State.thenPort_access_ok _ _ hf]

theorem exec_std_answered (hrd : rd.toNat % 2 = 0) (ha : ea.toNat % 8 = 0) (hf : s.portFaults .write ea 4 = false)
    (hf4 : s.portFaults .write (ea + 4) 4 = false) :
    exec (.std rd rs1 src) s = ((s.putWord ea (s.reg rd)).putWord (ea + 4) (s.reg (rd + 1))).complete := by
  rw [exec_std hea, if_pos hrd, if_pos ha, State.write32, State.thenPort_access_ok _ _ hf, State.write32,
    State.thenPort_access_ok _ _ ((State.portFaults_congr (s.putWord_cfg ea _) ..).trans hf4)]

end

/-! ### A load after a store -/

/-- Four bytes of a number in rising order are its low word (20_memory.md R62). -/
theorem State.wordAt_of_bytes {e : State} {a : Word} {v : Nat}
    (h : ∀ i, i < 4 → e.byteAt (a + BitVec.ofNat 32 i) = BitVec.ofNat 8 (v / 2 ^ (8 * (3 - i)))) : e.wordAt a = BitVec.ofNat 32 v := by
  have h0 : e.byteAt a = BitVec.ofNat 8 (v / 2 ^ 24) := by simpa using h 0 (by omega)
  have h1 : e.byteAt (a + 1) = BitVec.ofNat 8 (v / 2 ^ 16) := h 1 (by omega)
  have h2 : e.byteAt (a + 2) = BitVec.ofNat 8 (v / 2 ^ 8) := h 2 (by omega)
  have h3 : e.byteAt (a + 3) = BitVec.ofNat 8 v := by simpa using h 3 (by omega)
  apply BitVec.eq_of_toNat_eq
  rw [State.wordAt_eq_ofNat, h0, h1, h2, h3]
  simp only [BitVec.toNat_ofNat]
  omega

namespace Stored
variable {s e : State} {a : Word} {n v : Nat}

/-- Every word inside the stored bytes reads as its part of the stored number. -/
theorem wordAt (h : Stored s e a n v) {j : Nat} (hj : j + 4 ≤ n) :
    e.wordAt (a + BitVec.ofNat 32 j) = BitVec.ofNat 32 (v / 2 ^ (8 * (n - 4 - j))) := by
  refine State.wordAt_of_bytes fun i hi => ?_
  rw [add_ofNat_add_ofNat, h.bytes _ (by omega), Nat.div_div_eq_div_mul, ← Nat.pow_add]
  congr 3
  omega

/-- The word that was stored. -/
theorem wordAt_self {w : Word} (h : Stored s e a 4 w.toNat) : e.wordAt a = w := by
  simpa using h.wordAt (j := 0) (by omega)

/-- The words of the pair that was stored. -/
theorem wordAt_pair {w0 w1 : Word} (h : Stored s e a 8 (w0.toNat * 2 ^ 32 + w1.toNat)) : e.wordAt a = w0 ∧ e.wordAt (a + 4) = w1 := by
  have h0 := h.wordAt (j := 0) (by omega)
  have h4 := h.wordAt (j := 4) (by omega)
  rw [BitVec.add_zero] at h0
  refine ⟨h0.trans (BitVec.eq_of_toNat_eq ?_), h4.trans (BitVec.eq_of_toNat_eq ?_)⟩ <;>
    rw [BitVec.toNat_ofNat] <;> omega

theorem byteAt_self {b : Byte} (h : Stored s e a 1 b.toNat) : e.byteAt a = b := by
  simpa using h.bytes 0 (by omega)

theorem halfAt_self {w : BitVec 16} (h : Stored s e a 2 w.toNat) : e.halfAt a = w := by
  have h0 : e.byteAt a = BitVec.ofNat 8 (w.toNat / 2 ^ 8) := by simpa using h.bytes 0 (by omega)
  have h1 : e.byteAt (a + 1) = BitVec.ofNat 8 w.toNat := by simpa using h.bytes 1 (by omega)
  apply BitVec.eq_of_toNat_eq
  rw [State.halfAt_toNat, h0, h1]
  simp only [BitVec.toNat_ofNat]
  omega

/-- The next instruction starts from a state of the same kind, with the same port. -/
theorem advance_ready (h : Stored s e a n v) (hs : s.sized = true) (hq : s.quiet = true) :
    e.advance.sized = true ∧ e.advance.quiet = true ∧ ∀ kind b m, e.advance.portFaults kind b m = s.portFaults kind b m :=
  ⟨h.sized.trans hs, h.keeps.quiet hq, fun _ _ _ => State.portFaults_congr h.keeps.cfg ..⟩

end Stored

end Sys2Proof.Machine

open Sys2Proof.Machine

/-- Settles O26: one read, then the register write. -/
theorem loadResults : Obligations.LoadResults := by
  intro s rd rs1 src hs hq ea hea
  refine ⟨fun ha hf => ?_, fun hf => ⟨?_, ?_⟩, fun ha hf h hh => ?_⟩
  · rw [← s.wordAt_eq_ofNat]
    exact givesReg_ld hea hs hq ha hf
  · rw [BitVec.ofNat_toNat]
    exact givesReg_ldub hea hs hq hf
  · exact givesReg_ldsb hea hs hq hf
  · rw [← s.halfAt_eq_ofNat] at hh
    rw [hh, BitVec.ofNat_toNat]
    exact ⟨givesReg_lduh hea hs hq ha hf, givesReg_ldsh hea hs hq ha hf⟩

/-- Settles O27: both reads, then both register writes, of different registers since rd is even. -/
theorem loadDoubleResult : Obligations.LoadDoubleResult := by
  intro s rd rs1 src hs hq ea hea hrd ha hf hf4
  obtain ⟨hne, hne0⟩ := even_succ_ne hrd
  rw [exec_ldd hea, if_pos hrd, if_pos ha, State.read32, State.thenPort_access_ok _ _ hf, State.read32, State.thenPort_access_ok _ _ hf4]
  have hs1 : (s.setReg rd (s.wordAt ea)).sized = true := by rw [State.sized_setReg, hs]
  have hk : Keeps s ((s.setReg rd (s.wordAt ea)).setReg (rd + 1) (s.wordAt (ea + 4))) := by constructor <;> simp
  obtain ⟨hc, hp⟩ := proceeds_of hk (hk.quiet hq) (target := s.npc2) (by simp)
  refine ⟨_, hc, hp, ⟨by simp, by simp, by simp, by simp⟩, sameBytes_of_mem (by simp), ?_, ?_, fun c hcr hcr1 => ?_⟩
  · rw [reg_advance, State.reg_setReg_ne _ hs1 _ hne.symm, State.reg_setReg_self s hs]
  · rw [reg_advance, State.reg_setReg_self _ hs1, if_neg hne0]
  · have hcr1' : c ≠ (s.setReg rd (s.wordAt ea)).cellOf (rd + 1) := by simpa [State.cellOf] using hcr1
    rw [readCell_advance, State.setReg, State.readCell_writeCell_ne _ _ hcr1', State.setReg, State.readCell_writeCell_ne _ _ hcr]

/-- Settles O28: one write of the low bytes; the other two clauses are the alignment check's. -/
theorem storeResults : Obligations.StoreResults := by
  intro s rd rs1 src hq hm ea hea
  refine ⟨fun ha hf => ?_, fun hf => ?_, fun ha hf => ?_, fun ha => ?_, fun ha => ?_⟩
  · rw [exec_st_answered hea ha hf]
    exact (stored_putWord hm ea _).givesStore hq
  · rw [exec_stb_answered hea hf]
    simpa [BitVec.extractLsb'_toNat] using (stored_putByte hm ea ((s.reg rd).extractLsb' 0 8)).givesStore hq
  · rw [exec_sth_answered hea ha hf]
    simpa [BitVec.extractLsb'_toNat] using (stored_putHalf hm ea ((s.reg rd).extractLsb' 0 16)).givesStore hq
  · rw [exec_st hea, if_neg ha]; rfl
  · rw [exec_sth hea, if_neg ha]; rfl

/-- Settles O29: two writes, the second going on where the first ended. -/
theorem storeDoubleResult : Obligations.StoreDoubleResult := by
  intro s rd rs1 src hq hm ea hea hrd ha hf hf4
  rw [exec_std_answered hea hrd ha hf hf4]
  exact (stored_putWord_putWord hm ea _ _).givesStore hq

/-- Settles O30: the checks come before the accesses, the odd-rd check first. -/
theorem loadStoreTraps : Obligations.LoadStoreTraps := by
  intro s rd rs1 src ea hea
  refine ⟨fun ha => ⟨?_, ?_⟩, fun ha => ⟨?_, ?_, ?_⟩, fun hrd ha => ⟨?_, ?_⟩, fun hrd => ⟨?_, ?_⟩⟩
  · rw [exec_ld hea, if_neg ha]; rfl
  · rw [exec_st hea, if_neg ha]; rfl
  · rw [exec_lduh hea, if_neg ha]; rfl
  · rw [exec_ldsh hea, if_neg ha]; rfl
  · rw [exec_sth hea, if_neg ha]; rfl
  · rw [exec_ldd hea, if_pos hrd, if_neg ha]; rfl
  · rw [exec_std hea, if_pos hrd, if_neg ha]; rfl
  · rw [exec_ldd hea, if_neg (by omega)]; rfl
  · rw [exec_std hea, if_neg (by omega)]; rfl

end

section
/-! The load that follows a store: it runs from the store's next state, whose bytes are the stored ones. -/

namespace Sys2Proof.Machine.Stored
variable {s e : State} {ea : Word} {n v : Nat} (hs : s.sized = true) (hq : s.quiet = true) {rd rs1 : Reg} {src : Operand2}
  (hea : e.advance.reg rs1 + e.advance.operand2 src = ea)
include hs hq hea

theorem givesReg_ld {w : Word} (h : Stored s e ea 4 w.toNat) (ha : ea.toNat % 4 = 0) (hr : s.portFaults .read ea 4 = false) :
    GivesReg (exec (.ld rd rs1 src) e.advance) e.advance rd w e.advance.psr.icc e.advance.y := by
  obtain ⟨hs', hq', hp⟩ := h.advance_ready hs hq
  rw [← h.wordAt_self]
  exact Machine.givesReg_ld hea.symm hs' hq' ha ((hp ..).trans hr)

theorem givesReg_lduh_ldsh {w : BitVec 16} (h : Stored s e ea 2 w.toNat) (ha : ea.toNat % 2 = 0) (hr : s.portFaults .read ea 2 = false) :
    GivesReg (exec (.lduh rd rs1 src) e.advance) e.advance rd (w.zeroExtend 32) e.advance.psr.icc e.advance.y ∧
    GivesReg (exec (.ldsh rd rs1 src) e.advance) e.advance rd (w.signExtend 32) e.advance.psr.icc e.advance.y := by
  obtain ⟨hs', hq', hp⟩ := h.advance_ready hs hq
  rw [← h.halfAt_self]
  exact ⟨givesReg_lduh hea.symm hs' hq' ha ((hp ..).trans hr), givesReg_ldsh hea.symm hs' hq' ha ((hp ..).trans hr)⟩

theorem givesReg_ldub_ldsb {b : Byte} (h : Stored s e ea 1 b.toNat) (hr : s.portFaults .read ea 1 = false) :
    GivesReg (exec (.ldub rd rs1 src) e.advance) e.advance rd (b.zeroExtend 32) e.advance.psr.icc e.advance.y ∧
    GivesReg (exec (.ldsb rd rs1 src) e.advance) e.advance rd (b.signExtend 32) e.advance.psr.icc e.advance.y := by
  obtain ⟨hs', hq', hp⟩ := h.advance_ready hs hq
  rw [← h.byteAt_self]
  exact ⟨givesReg_ldub hea.symm hs' hq' ((hp ..).trans hr), givesReg_ldsb hea.symm hs' hq' ((hp ..).trans hr)⟩

theorem exec_ldd_pair {w0 w1 : Word} (h : Stored s e ea 8 (w0.toNat * 2 ^ 32 + w1.toNat)) (hrd : rd.toNat % 2 = 0) (ha : ea.toNat % 8 = 0)
    (hr : s.portFaults .read ea 4 = false) (hr4 : s.portFaults .read (ea + 4) 4 = false) :
    ∃ u, exec (.ldd rd rs1 src) e.advance = .next u ∧ Proceeds e.advance u e.advance.npc2 ∧ SameSpecials e.advance u ∧
      SameBytes e.advance u ∧ u.reg rd = (if rd = 0 then 0 else w0) ∧ u.reg (rd + 1) = w1 ∧
      ∀ c : RegCell, c ≠ e.advance.cellOf rd → c ≠ e.advance.cellOf (rd + 1) → u.readCell c = e.advance.readCell c := by
  obtain ⟨hs', hq', hp⟩ := h.advance_ready hs hq
  obtain ⟨hw0, hw1⟩ := h.wordAt_pair
  rw [← hw0, ← hw1]
  exact loadDoubleResult e.advance rd rs1 src hs' hq' ea hea.symm hrd ha ((hp ..).trans hr) ((hp ..).trans hr4)

end Sys2Proof.Machine.Stored

open Sys2Proof.Machine

/-- Settles O31: each size's store, then its load from the state the store left. -/
theorem storeThenLoad : Obligations.StoreThenLoad := by
  intro s rd rs1 src hs hq hm ea hea
  refine ⟨fun ha hw hr => ?_, fun ha hw hr => ?_, fun hw hr => ?_, fun hrd ha hw hw4 hr hr4 => ?_⟩
  · have h := stored_putWord hm ea (s.reg rd)
    exact ⟨_, (exec_st_answered hea ha hw).trans (h.complete hq), fun _ _ _ hea' => h.givesReg_ld hs hq hea' ha hr⟩
  · have h := stored_putHalf hm ea ((s.reg rd).extractLsb' 0 16)
    exact ⟨_, (exec_sth_answered hea ha hw).trans (h.complete hq), fun _ _ _ hea' => h.givesReg_lduh_ldsh hs hq hea' ha hr⟩
  · have h := stored_putByte hm ea ((s.reg rd).extractLsb' 0 8)
    exact ⟨_, (exec_stb_answered hea hw).trans (h.complete hq), fun _ _ _ hea' => h.givesReg_ldub_ldsb hs hq hea' hr⟩
  · have h := stored_putWord_putWord hm ea (s.reg rd) (s.reg (rd + 1))
    exact ⟨_, (exec_std_answered hea hrd ha hw hw4).trans (h.complete hq),
      fun _ _ _ hrd' hea' => h.exec_ldd_pair hs hq hea' hrd' ha hr hr4⟩

end

section
/-! Where the port faults (20_memory.md R64, R68, R69): every access goes through `thenPort`, and its Fault is the outcome (`State.thenPort_access_fault`). Below, what leads to each access that the controller makes: the re-fetch, the vector fetch, the prefetch. -/

namespace Sys2Proof.Machine

theorem State.unlisted_v8 {s : State} (h8 : s.cfg.implUnlisted = .v8) (k : Result) : s.unlisted k = k := by
  rw [State.unlisted, h8]

section
variable {s : State} {rd rs1 : Reg} {src : Operand2} {ea : Word} (hea : ea = s.reg rs1 + s.operand2 src) (h8 : s.cfg.implUnlisted = .v8)
include hea h8

theorem exec_ldstub : exec (.ldstub rd rs1 src) s =
    thenPort (s.read8 ea) fun v => thenPort (s.write8 ea 0xFF) fun e => e.finish rd (v.zeroExtend 32) := by
  subst hea; exact State.unlisted_v8 h8 _

theorem exec_swap : exec (.swap rd rs1 src) s =
    if ea.toNat % 4 = 0 then
      thenPort (s.read32 ea) fun v => thenPort (s.write32 ea (s.reg rd)) fun e => e.finish rd v
    else s.trap .memAddressNotAligned := by
  subst hea; rw [← State.requireAligned4_eq]; exact State.unlisted_v8 h8 _
end

/-! ### The branches that annul -/

/-- A Bicc other than BA has the shared meaning of the conditional branches (45_branches.md R260, R261). -/
theorem exec_decodeBicc {c : Cond} (hc : c ≠ .a) (a : Bool) (disp22 : BitVec 22) (s : State) :
    exec (decodeBicc a disp22 c) s = (s.branch c a disp22).complete := by
  cases c with
  | a => exact absurd rfl hc
  | _ => rfl

/-- An untaken Bicc with a = 1 only annuls (45_branches.md R261). -/
theorem exec_decodeBicc_untaken {s : State} {c : Cond} (hc : condHolds c s.psr.icc = false) (disp22 : BitVec 22) :
    exec (decodeBicc true disp22 c) s = s.setAnnul.complete := by
  have hne : c ≠ .a := by rintro rfl; simp [condHolds] at hc
  rw [exec_decodeBicc hne, State.branch, hc, if_neg (by decide), if_pos rfl]

/-- `ba,a` under BA_ANNUL = v8 schedules its target and annuls (45_branches.md R262). -/
theorem exec_ba_annul {s : State} (hb : s.cfg.baAnnul = .v8) (disp22 : BitVec 22) :
    exec (.ba true disp22) s = (s.setNpc2 (s.pc + branchOffset disp22)).setAnnul.complete := by
  change (s.branchAlways true disp22).complete = _
  rw [State.branchAlways, hb]; rfl

/-! ### Stages 4 to 6 -/

theorem State.complete_refetch_fault {s : State} (ha : s.annul = true) (hf : s.portFaults .fetch s.npc2 4 = true) :
    s.complete = .fault (.hardFault .fetch s.npc2 4) := by
  rw [State.complete, if_pos ha]
  exact State.thenPort_access_fault _ _ hf

/-- What the arbitration does with a selected trap other than reset (50_pipeline_controller.md R404). -/
theorem State.arbitrate_trap {s : State} {t : Trap} (hsel : s.selectTrap = some t) (hr : t ≠ .reset) :
    s.arbitrate = if Trap.isInterrupt t || s.psr.et then s.takeTrap t else .next s.errorMode := by
  rw [State.arbitrate, hsel]
  cases t with
  | reset => exact absurd rfl hr
  | _ => rfl

theorem State.arbitrate_reset {s : State} (hsel : s.selectTrap = some .reset) : s.arbitrate = s.bootAt s.bootEntry := by
  rw [State.arbitrate, hsel]

theorem State.selectTrap_fixedUp (s : State) : s.fixedUp.selectTrap = s.selectTrap := by
  obtain ⟨hcfg, -, -, -, hpsr, -, -, -, hpending, -⟩ := s.fixedUp_frame
  exact State.selectTrap_congr hcfg hpending (by rw [hpsr]) (by rw [hpsr])

/-- The vector fetch of the selected trap faults: a HardFault, not a nested trap (60_exceptions.md R466). -/
theorem State.complete_vector_fault {s : State} {t : Trap} (ha : s.annul = false ∨ s.portFaults .fetch s.npc2 4 = false)
    (hsel : s.selectTrap = some t) (hr : t ≠ .reset) (hc : Trap.isInterrupt t = true ∨ s.psr.et = true)
    (hf : s.portFaults .fetch (trapVector s.tbr.tba t) 4 = true) :
    s.complete = .fault (.hardFault .fetch (trapVector s.tbr.tba t) 4) := by
  obtain ⟨hcfg, -, -, -, hpsr, -, htbr, -⟩ := s.fixedUp_frame
  have hc' : (Trap.isInterrupt t || s.psr.et) = true := by simpa using hc
  rw [State.complete_fixedUp ha, State.arbitrate_trap (s.selectTrap_fixedUp.trans hsel) hr, hpsr, if_pos hc', State.takeTrap, htbr]
  exact State.thenPort_access_fault _ _ ((State.portFaults_congr hcfg ..).trans hf)

/-- The prefetch of the reset trap faults (70_reset_and_hazards.md R506). -/
theorem State.complete_reset_fault {s : State} (ha : s.annul = false ∨ s.portFaults .fetch s.npc2 4 = false)
    (hsel : s.selectTrap = some .reset) (hf : s.portFaults .fetch s.bootEntry 4 = true) :
    s.complete = .fault (.hardFault .fetch s.bootEntry 4) := by
  obtain ⟨hcfg, -, -, -, -, -, -, -, -, -, hboot, -⟩ := s.fixedUp_frame
  rw [State.complete_fixedUp ha, State.arbitrate_reset (s.selectTrap_fixedUp.trans hsel), hboot]
  exact State.thenPort_access_fault _ _ ((State.portFaults_congr hcfg ..).trans hf)

/-! ### The host's calls -/

theorem State.whenRunning_normal {s : State} {wanted : Stage} (hn : s.status = .normal) (hst : s.stage = wanted) (hw : wanted ≠ .created)
    (k : Result) : s.whenRunning wanted k = k := by
  simp only [State.whenRunning, hn, hst, if_neg hw, if_true]

theorem State.whenRunning_hardFault {s : State} (h : s.status = .hardFault) (wanted : Stage) (k : Result) :
    s.whenRunning wanted k = .fault .alreadyHardFault := by
  simp only [State.whenRunning, h]

/-- `step` begins with `fetch`, whose fault is the step's (50_pipeline_controller.md R406). -/
theorem step_of_callFetch_fault {s : State} {f : Fault} (h : callFetch s = .fault f) : step s = .fault f := by
  rw [step, callStep, h]; rfl

theorem callFetch_fault {s : State} (hn : s.status = .normal) (hst : s.stage = .boundary) (hf : s.portFaults .fetch s.npc 4 = true) :
    callFetch s = .fault (.hardFault .fetch s.npc 4) := by
  rw [callFetch, State.whenRunning_normal hn hst (by decide)]
  exact State.thenPort_access_fault _ _ hf

theorem callBoot_fault {s : State} {e : Word} (he : e.toNat % 4 = 0) (hf : s.portFaults .fetch e 4 = true) :
    callBoot e s = .fault (.hardFault .fetch e 4) := by
  rw [callBoot, if_pos (by rw [aligned4_iff, decide_eq_true he])]
  exact State.thenPort_access_fault _ _ hf

end Sys2Proof.Machine

open Sys2Proof.Machine

/-- Settles O32: access by access; a core already in HardFault stops at the test each call begins with. -/
theorem portFaultStops : Obligations.PortFaultStops := by
  refine ⟨fun s hn hst hf => step_of_callFetch_fault (callFetch_fault hn hst hf),
    fun s rd rs1 src ea hea => ⟨?readByte, ?writeByte, ?half, ?word, ?double⟩,
    fun s ha hf => State.complete_refetch_fault ha hf, ?untaken, ?branchAlways,
    fun s ha => ⟨?vector, fun hsel hf => State.complete_reset_fault ha hsel hf⟩,
    fun s e he hf => callBoot_fault he hf, ?status⟩
  case readByte =>
    refine fun hf => ⟨?_, ?_, fun h8 => ?_⟩
    · rw [exec_ldub hea]; exact State.thenPort_access_fault _ _ hf
    · rw [exec_ldsb hea]; exact State.thenPort_access_fault _ _ hf
    · rw [exec_ldstub hea h8]; exact State.thenPort_access_fault _ _ hf
  case writeByte =>
    refine fun hf => ⟨?_, fun h8 hr => ?_⟩
    · rw [exec_stb hea]; exact State.thenPort_access_fault _ _ hf
    · rw [exec_ldstub hea h8, State.read8, State.thenPort_access_ok _ _ hr]; exact State.thenPort_access_fault _ _ hf
  case half =>
    refine fun ha => ⟨fun hf => ⟨?_, ?_⟩, fun hf => ?_⟩
    · rw [exec_lduh hea, if_pos ha]; exact State.thenPort_access_fault _ _ hf
    · rw [exec_ldsh hea, if_pos ha]; exact State.thenPort_access_fault _ _ hf
    · rw [exec_sth hea, if_pos ha]; exact State.thenPort_access_fault _ _ hf
  case word =>
    refine fun ha => ⟨fun hf => ⟨?_, fun h8 => ?_⟩, fun hf => ⟨?_, fun h8 hr => ?_⟩⟩
    · rw [exec_ld hea, if_pos ha]; exact State.thenPort_access_fault _ _ hf
    · rw [exec_swap hea h8, if_pos ha]; exact State.thenPort_access_fault _ _ hf
    · rw [exec_st hea, if_pos ha]; exact State.thenPort_access_fault _ _ hf
    · rw [exec_swap hea h8, if_pos ha, State.read32, State.thenPort_access_ok _ _ hr]; exact State.thenPort_access_fault _ _ hf
  case double =>
    intro hrd ha
    rw [exec_ldd hea, exec_std hea, if_pos hrd, if_pos ha, if_pos hrd, if_pos ha]
    refine ⟨fun hf => State.thenPort_access_fault _ _ hf, fun hok hf => ?_, fun hf => State.thenPort_access_fault _ _ hf, fun hok hf => ?_⟩
    · rw [State.read32, State.thenPort_access_ok _ _ hok]; exact State.thenPort_access_fault _ _ hf
    · rw [State.write32, State.thenPort_access_ok _ _ hok]
      exact State.thenPort_access_fault _ _ ((State.portFaults_congr (s.putWord_cfg ea _) ..).trans hf)
  case untaken =>
    intro s c disp22 hc hf
    rw [exec_decodeBicc_untaken hc]
    exact State.complete_refetch_fault (s := s.setAnnul) rfl hf
  case branchAlways =>
    intro s disp22 t ht hb hf
    rw [exec_ba_annul hb, branchOffset_eq, ← ht]
    exact State.complete_refetch_fault (s := (s.setNpc2 t).setAnnul) rfl hf
  case vector =>
    rintro t v hsel hr hc rfl hf
    exact State.complete_vector_fault ha hsel hr hc hf
  case status =>
    intro s h
    have hfetch : callFetch s = .fault .alreadyHardFault := State.whenRunning_hardFault h _ _
    exact ⟨step_of_callFetch_fault hfetch, hfetch, State.whenRunning_hardFault h _ _, State.whenRunning_hardFault h _ _⟩

end

section
/-! The tables of 30_encoding.md and 40_condition_codes.md, read both ways. First the decoder by format: one equation for each op and for each form of the encoder. -/

namespace Sys2Proof

theorem fieldOp_cases (w : Word) : fieldOp w = 0#2 ∨ fieldOp w = 1#2 ∨ fieldOp w = 2#2 ∨ fieldOp w = 3#2 := by
  generalize fieldOp w = op
  revert op
  decide

theorem decodeRow_of_format2 {w : Word} (h : fieldOp w = 0#2) : decodeRow w = decodeFormat2 w (fieldOp2 w) := by
  simp only [decodeRow, h]

theorem decodeRow_of_call {w : Word} (h : fieldOp w = 1#2) : decodeRow w = some (.call (fieldDisp30 w)) := by
  simp only [decodeRow, h]

theorem decodeRow_of_arith {w : Word} (h : fieldOp w = 2#2) :
    decodeRow w = decodeArith w (fieldRd w) (fieldRs1 w) (decodeOperand2 (fieldLow w)) (fieldLow w) (fieldOp3 w) := by
  simp only [decodeRow, h]

theorem decodeRow_of_memory {w : Word} (h : fieldOp w = 3#2) :
    decodeRow w = decodeMemory (fieldRd w) (fieldRs1 w) (decodeOperand2 (fieldLow w)) (fieldOp3 w) := by
  simp [decodeRow, h]

@[simp] theorem condOfCode_condCode (c : Cond) : condOfCode (condCode c) = c := by cases c <;> rfl

@[simp] theorem condCode_condOfCode (code : BitVec 4) : condCode (condOfCode code) = code := by
  revert code
  decide

theorem decodeRow_encodeFormat3 (op3 : BitVec 6) (rd rs1 : Reg) (low : BitVec 14) :
    decodeRow (encodeFormat3 2#2 rd op3 rs1 low) =
      decodeArith (encodeFormat3 2#2 rd op3 rs1 low) rd rs1 (decodeOperand2 low) low op3 := by
  rw [decodeRow_of_arith (fieldOp_format3 ..), fieldRd_format3, fieldRs1_format3, fieldLow_format3, fieldOp3_format3]

theorem decodeRow_encodeArith (op3 : BitVec 6) (rd rs1 : Reg) (src : Operand2) :
    decodeRow (encodeArith op3 rd rs1 src) = decodeArith (encodeArith op3 rd rs1 src) rd rs1 src (encodeOperand2 src) op3 := by
  rw [encodeArith, decodeRow_encodeFormat3, decodeOperand2_encode]

theorem decodeRow_encodeMemory (op3 : BitVec 6) (rd rs1 : Reg) (src : Operand2) :
    decodeRow (encodeMemory op3 rd rs1 src) = decodeMemory rd rs1 src op3 := by
  rw [encodeMemory, decodeRow_of_memory (fieldOp_format3 ..), fieldRd_format3, fieldRs1_format3, fieldLow_format3,
    fieldOp3_format3, decodeOperand2_encode]

theorem decodeRow_encodeFormat2 (rd : Reg) (op2 : BitVec 3) (imm22 : BitVec 22) :
    decodeRow (encodeFormat2 rd op2 imm22) = decodeFormat2 (encodeFormat2 rd op2 imm22) op2 := by
  rw [decodeRow_of_format2 (fieldOp_format2 ..), fieldOp2_format2]

theorem decodeRow_encodeBicc (c : Cond) (a : Bool) (disp22 : BitVec 22) :
    decodeRow (encodeBicc c a disp22) = some (decodeBicc a disp22 c) := by
  rw [encodeBicc, decodeRow_encodeFormat2, decodeFormat2, fieldA_format2, fieldCond_format2, fieldImm22_format2, condOfCode_condCode]

theorem decodeRow_encodeTicc (c : Cond) (res : Bool) (rs1 : Reg) (src : Operand2) :
    decodeRow (encodeTicc c res rs1 src) = some (decodeTicc res rs1 src c) := by
  rw [encodeTicc, decodeRow_encodeArith, decodeArith, encodeArith, fieldA_format3, fieldCond_format3, condOfCode_condCode]

/-! ### From an instruction to its word and back -/

theorem extractLsb'_opf (opf : BitVec 9) (rs2 : Reg) : (opf ++ rs2 : BitVec 14).extractLsb' 5 9 = opf :=
  BitVec.extractLsb'_append_eq_left

theorem extractLsb'_rs2 (opf : BitVec 9) (rs2 : Reg) : (opf ++ rs2 : BitVec 14).extractLsb' 0 5 = rs2 :=
  BitVec.extractLsb'_append_eq_right

theorem decodeRdAsr_stbar (low : BitVec 13) : decodeRdAsr 0 15 (0#1 ++ low) = .stbar low := by
  have h13 : (0#1 ++ low : BitVec (1 + 13)).getLsbD 13 = false := by rw [BitVec.getLsbD_append]; simp
  have hlow : (0#1 ++ low : BitVec 14).extractLsb' 0 13 = low := BitVec.extractLsb'_append_eq_right
  exact (if_neg (by decide)).trans ((if_pos ⟨rfl, rfl, h13⟩).trans (congrArg _ hlow))

/-- Well-formedness excludes the two rows that stand before RDASR's (R106, R115). -/
theorem decodeRdAsr_rdasr {rd asr : Reg} {low : BitVec 14} (h : (Instr.rdasr rd asr low).wellFormed = true) :
    decodeRdAsr rd asr low = .rdasr rd asr low := by
  grind [decodeRdAsr, Instr.wellFormed]

theorem decodeWrAsr_wrasr {asr rs1 : Reg} {src : Operand2} (h : (Instr.wrasr asr rs1 src).wellFormed = true) :
    decodeWrAsr asr rs1 src = .wrasr asr rs1 src :=
  if_neg (of_decide_eq_true h)

/-- The cases are the forms of the encoder; the last one holds every other instruction of op = 2. -/
theorem decodeRow_encode {i : Instr} (h : i.wellFormed = true) : decodeRow (encode i) = some i := by
  cases i with
  | call disp30 => rw [decodeRow_of_call (fieldOp_call disp30), fieldDisp30_call]
  | sethi rd imm22 | unimp rd imm22 =>
    exact (decodeRow_encodeFormat2 ..).trans (by rw [decodeFormat2, fieldRd_format2, fieldImm22_format2])
  | fbfcc a cond disp22 | cbccc a cond disp22 =>
    exact (decodeRow_encodeFormat2 ..).trans (by rw [decodeFormat2, fieldA_format2, fieldCond_format2, fieldImm22_format2])
  | bn a disp22 | be a disp22 | ble a disp22 | bl a disp22 | bleu a disp22 | bcs a disp22 | bneg a disp22 | bvs a disp22
  | ba a disp22 | bne a disp22 | bg a disp22 | bge a disp22 | bgu a disp22 | bcc a disp22 | bpos a disp22 | bvc a disp22 =>
    exact decodeRow_encodeBicc _ a disp22
  | tn res rs1 src | te res rs1 src | tle res rs1 src | tl res rs1 src | tleu res rs1 src | tcs res rs1 src | tneg res rs1 src
  | tvs res rs1 src | ta res rs1 src | tne res rs1 src | tg res rs1 src | tge res rs1 src | tgu res rs1 src | tcc res rs1 src
  | tpos res rs1 src | tvc res rs1 src =>
    exact decodeRow_encodeTicc _ res rs1 src
  | rdy rd low => exact decodeRow_encodeFormat3 0x28#6 rd 0 low
  | stbar low => exact (decodeRow_encodeFormat3 0x28#6 0 15 (0#1 ++ low)).trans (congrArg some (decodeRdAsr_stbar low))
  | rdasr rd asr low => exact (decodeRow_encodeFormat3 0x28#6 rd asr low).trans (congrArg some (decodeRdAsr_rdasr h))
  | rdpsr rd rs1 low | rdwim rd rs1 low | rdtbr rd rs1 low => exact decodeRow_encodeFormat3 _ rd rs1 low
  | wry rs1 src => exact decodeRow_encodeArith 0x30#6 0 rs1 src
  | wrasr asr rs1 src => exact (decodeRow_encodeArith 0x30#6 asr rs1 src).trans (congrArg some (decodeWrAsr_wrasr h))
  | fpop1 rd rs1 opf rs2 | fpop2 rd rs1 opf rs2 | cpop1 rd rs1 opf rs2 | cpop2 rd rs1 opf rs2 =>
    exact (decodeRow_encodeFormat3 _ rd rs1 (opf ++ rs2)).trans (by rw [decodeArith, extractLsb'_opf, extractLsb'_rs2])
  | ld rd rs1 src | ldub rd rs1 src | ldsb rd rs1 src | ldd rd rs1 src | lduh rd rs1 src | ldsh rd rs1 src | st rd rs1 src
  | stb rd rs1 src | sth rd rs1 src | std rd rs1 src | ldstub rd rs1 src | swap rd rs1 src | lda rd rs1 src | lduba rd rs1 src
  | lduha rd rs1 src | ldda rd rs1 src | sta rd rs1 src | stba rd rs1 src | stha rd rs1 src | stda rd rs1 src | ldsba rd rs1 src
  | ldsha rd rs1 src | ldstuba rd rs1 src | swapa rd rs1 src | ldf rd rs1 src | ldfsr rd rs1 src | lddf rd rs1 src | stf rd rs1 src
  | stfsr rd rs1 src | stdfq rd rs1 src | stdf rd rs1 src | ldc rd rs1 src | ldcsr rd rs1 src | lddc rd rs1 src | stc rd rs1 src
  | stcsr rd rs1 src | stdcq rd rs1 src | stdc rd rs1 src =>
    exact decodeRow_encodeMemory _ rd rs1 src
  | _ rd rs1 src => exact decodeRow_encodeArith _ rd rs1 src

/-! ### From a word to an instruction and back: a word is put together again from its fields -/

theorem encodeFormat3_fields (w : Word) : encodeFormat3 (fieldOp w) (fieldRd w) (fieldOp3 w) (fieldRs1 w) (fieldLow w) = w := by
  ext i hi
  rw [← BitVec.getLsbD_eq_getElem, encodeFormat3_getLsbD]
  simp only [fieldOp, fieldRd, fieldOp3, fieldRs1, fieldLow, BitVec.getLsbD_extractLsb']
  grind

theorem encodeFormat2_fields {w : Word} (h : fieldOp w = 0#2) : encodeFormat2 (fieldRd w) (fieldOp2 w) (fieldImm22 w) = w := by
  have hop : encodeFormat2 (fieldRd w) (fieldOp2 w) (fieldImm22 w) = fieldOp w ++ fieldRd w ++ fieldOp2 w ++ fieldImm22 w := by
    rw [h, encodeFormat2]
  rw [hop, fieldOp, fieldRd, fieldOp2, fieldImm22]
  ext i hi
  simp only [BitVec.getElem_append, BitVec.getElem_extractLsb']
  grind

theorem encode_call_fieldDisp30 {w : Word} (h : fieldOp w = 1#2) : encode (.call (fieldDisp30 w)) = w := by
  have hop : encode (.call (fieldDisp30 w)) = fieldOp w ++ fieldDisp30 w := by rw [h, encode]
  rw [hop, fieldOp, fieldDisp30]
  ext i hi
  simp only [BitVec.getElem_append, BitVec.getElem_extractLsb']
  grind

theorem condField_fields (w : Word) : condField (fieldA w) (fieldCond w) = fieldRd w := by
  ext i hi
  rw [← BitVec.getLsbD_eq_getElem, condField_getLsbD]
  simp only [fieldA, fieldRd, fieldCond, BitVec.getLsbD_extractLsb', BitVec.getElem_extractLsb']
  grind

theorem encodeOperand2_decode (low : BitVec 14) : encodeOperand2 (decodeOperand2 low) = low := by
  rw [decodeOperand2]
  split <;>
  · rw [encodeOperand2]
    ext i hi
    simp only [BitVec.getElem_append, BitVec.getElem_extractLsb']
    grind

theorem opf_append_rs2 (low : BitVec 14) : (low.extractLsb' 5 9 ++ low.extractLsb' 0 5 : BitVec 14) = low := by
  ext i hi
  simp only [BitVec.getElem_append, BitVec.getElem_extractLsb']
  grind

theorem zero_append_extractLsb' {low : BitVec 14} (h : low.getLsbD 13 = false) : (0#1 ++ low.extractLsb' 0 13 : BitVec 14) = low := by
  ext i hi
  simp only [BitVec.getElem_append, BitVec.getElem_extractLsb']
  grind

/-- `i` is an instruction of the table and `w` is its word. -/
def IsWordOf (w : Word) (i : Instr) : Prop := i.wellFormed = true ∧ encode i = w

theorem isWordOf_decodeBicc (a : Bool) (disp22 : BitVec 22) (c : Cond) : IsWordOf (encodeBicc c a disp22) (decodeBicc a disp22 c) := by
  cases c <;> exact ⟨rfl, rfl⟩

theorem isWordOf_decodeTicc (res : Bool) (rs1 : Reg) (src : Operand2) (c : Cond) :
    IsWordOf (encodeTicc c res rs1 src) (decodeTicc res rs1 src c) := by
  cases c <;> exact ⟨rfl, rfl⟩

theorem isWordOf_decodeRdAsr (rd rs1 : Reg) (low : BitVec 14) :
    IsWordOf (encodeFormat3 2#2 rd 0x28#6 rs1 low) (decodeRdAsr rd rs1 low) := by
  rw [decodeRdAsr]
  split
  next hrdy => exact ⟨rfl, by rw [hrdy, encode]⟩
  next hrs1 =>
    split
    next hstbar =>
      obtain ⟨rfl, rfl, h13⟩ := hstbar
      exact ⟨rfl, by rw [encode, zero_append_extractLsb' h13]⟩
    next hstbar => exact ⟨by grind [Instr.wellFormed], rfl⟩

theorem isWordOf_decodeWrAsr (rd rs1 : Reg) (src : Operand2) : IsWordOf (encodeArith 0x30#6 rd rs1 src) (decodeWrAsr rd rs1 src) := by
  rw [decodeWrAsr]
  split
  next hrd => exact ⟨rfl, by rw [hrd, encode]⟩
  next hrd => exact ⟨decide_eq_true hrd, rfl⟩

/-- The arms of the op2 map; the second is Bicc's, and the branch forms hold a and cond where rd stands. -/
theorem isWordOf_decodeFormat2 {w : Word} {i : Instr} (hop : fieldOp w = 0#2) (h : decodeFormat2 w (fieldOp2 w) = some i) :
    IsWordOf w i := by
  have hrd := encodeFormat2_fields hop
  have hcond := hrd
  rw [← condField_fields] at hcond
  revert h hrd hcond
  fun_cases decodeFormat2 w (fieldOp2 w) <;> rintro ⟨⟩ hrd hcond
  case case2 =>
    have hbicc := isWordOf_decodeBicc (fieldA w) (fieldImm22 w) (condOfCode (fieldCond w))
    rwa [encodeBicc, condCode_condOfCode, hcond] at hbicc
  case case1 | case3 => exact ⟨rfl, hrd⟩
  case case4 | case5 => exact ⟨rfl, hcond⟩

/-- The arms of the op3 map for op = 2: the numbered ones are RDY with STBAR and RDASR, RDPSR to RDTBR, WRY with WRASR, FPop1 to CPop2, and Ticc; every other arm has the fields of format 3. -/
theorem isWordOf_decodeArith {w : Word} {i : Instr} (hop : fieldOp w = 2#2)
    (h : decodeArith w (fieldRd w) (fieldRs1 w) (decodeOperand2 (fieldLow w)) (fieldLow w) (fieldOp3 w) = some i) :
    IsWordOf w i := by
  have hlow := encodeFormat3_fields w
  rw [hop] at hlow
  have hsrc : encodeArith (fieldOp3 w) (fieldRd w) (fieldRs1 w) (decodeOperand2 (fieldLow w)) = w := by
    rw [encodeArith, encodeOperand2_decode, hlow]
  revert h hlow hsrc
  fun_cases decodeArith w (fieldRd w) (fieldRs1 w) (decodeOperand2 (fieldLow w)) (fieldLow w) (fieldOp3 w) <;>
    rintro ⟨⟩ hlow hsrc
  case case37 =>
    have hrd := isWordOf_decodeRdAsr (fieldRd w) (fieldRs1 w) (fieldLow w)
    rwa [hlow] at hrd
  case case38 | case39 | case40 => exact ⟨rfl, hlow⟩
  case case41 =>
    have hwr := isWordOf_decodeWrAsr (fieldRd w) (fieldRs1 w) (decodeOperand2 (fieldLow w))
    rwa [hsrc] at hwr
  case case45 | case46 | case47 | case48 => exact ⟨rfl, by rw [encode, opf_append_rs2, hlow]⟩
  case case51 =>
    have hticc := isWordOf_decodeTicc (fieldA w) (fieldRs1 w) (decodeOperand2 (fieldLow w)) (condOfCode (fieldCond w))
    rwa [encodeTicc, condCode_condOfCode, condField_fields, hsrc] at hticc
  all_goals exact ⟨rfl, hsrc⟩

theorem isWordOf_decodeMemory {rd rs1 : Reg} {op3 : BitVec 6} {src : Operand2} {i : Instr}
    (h : decodeMemory rd rs1 src op3 = some i) : IsWordOf (encodeMemory op3 rd rs1 src) i := by
  revert h
  fun_cases decodeMemory rd rs1 src op3 <;> rintro ⟨⟩ <;> exact ⟨rfl, rfl⟩

theorem isWordOf_decodeRow {w : Word} {i : Instr} (h : decodeRow w = some i) : IsWordOf w i := by
  rcases fieldOp_cases w with hop | hop | hop | hop
  · rw [decodeRow_of_format2 hop] at h
    exact isWordOf_decodeFormat2 hop h
  · rw [decodeRow_of_call hop] at h
    cases h
    exact ⟨rfl, encode_call_fieldDisp30 hop⟩
  · rw [decodeRow_of_arith hop] at h
    exact isWordOf_decodeArith hop h
  · rw [decodeRow_of_memory hop] at h
    have hw := isWordOf_decodeMemory h
    rwa [encodeMemory, encodeOperand2_decode, ← hop, encodeFormat3_fields] at hw

/-! ### The identities: what a row's words decode to under a setting of IMPL_UNLISTED (R107, R360) -/

theorem decode_eq_instr_iff {u : Unlisted} {w : Word} {i : Instr} :
    decode u w = .instr i ↔ ∃ row, decodeRow w = some row ∧ row.identity u = some i := by
  rw [← Option.bind_eq_some_iff, decode]
  split
  next j hj => rw [hj, Decoded.instr.injEq, Option.some.injEq]
  next hnone => exact iff_of_false nofun fun hsome => nomatch hnone.symm.trans hsome

theorem decode_eq_invalid_iff {u : Unlisted} {w : Word} {c : InvalidRecord} :
    decode u w = .invalid c ↔ (decodeRow w).bind (Instr.identity u) = none ∧ invalidRecord w = c := by
  rw [decode]
  split
  next j hj => exact iff_of_false nofun fun hinv => nomatch hj.symm.trans hinv.1
  next hnone => rw [Decoded.invalid.injEq, and_iff_right hnone]

theorem identity_of_mapped {u : Unlisted} {i : Instr} (h : i.rowClass = .named ∨ (i.rowClass = .twelve ∧ u = .v8)) :
    i.identity u = some i := by
  rcases h with hnamed | ⟨htwelve, rfl⟩
  · simp only [Instr.identity, hnamed]
  · simp only [Instr.identity, htwelve]

theorem byDefault_of_ne_stbar {i : Instr} (h : ∀ low, i ≠ .stbar low) : i.byDefault = none := by
  fun_cases Instr.byDefault i with
  | case1 low => exact absurd rfl (h low)
  | case2 => rfl

theorem identity_of_unmapped {u : Unlisted} {i : Instr}
    (h : i.rowClass = .unmapped ∨ (i.rowClass = .twelve ∧ u = .illegal ∧ ∀ low, i ≠ .stbar low)) : i.identity u = none := by
  rcases h with hunmapped | ⟨htwelve, rfl, hstbar⟩
  · simp only [Instr.identity, hunmapped]
  · simp only [Instr.identity, htwelve, byDefault_of_ne_stbar hstbar]

/-- A row's words decode to its own instruction, or are STBAR's under the default setting. -/
theorem identity_eq_some {u : Unlisted} {row i : Instr} (h : row.identity u = some i) :
    (i = row ∧ (row.rowClass = .named ∨ (row.rowClass = .twelve ∧ u = .v8))) ∨
      (u = .illegal ∧ ∃ low : BitVec 13, row = .stbar low ∧ i = .rdasr 0 15 (0#1 ++ low)) := by
  unfold Instr.identity at h
  split at h
  next hnamed => exact .inl ⟨(Option.some.inj h).symm, .inl hnamed⟩
  next htwelve => exact .inl ⟨(Option.some.inj h).symm, .inr ⟨htwelve, rfl⟩⟩
  next htwelve =>
    unfold Instr.byDefault at h
    split at h
    next low => exact .inr ⟨rfl, low, rfl, (Option.some.inj h).symm⟩
    next => cases h
  next => cases h

theorem decode_instr_rowClass {u : Unlisted} {w : Word} {i : Instr} (h : decode u w = .instr i) :
    i.rowClass = .named ∨ (i.rowClass = .twelve ∧ u = .v8) := by
  obtain ⟨row, -, hid⟩ := decode_eq_instr_iff.1 h
  rcases identity_eq_some hid with ⟨rfl, hclass⟩ | ⟨-, low, -, rfl⟩
  · exact hclass
  · exact .inl rfl

end Sys2Proof

open Sys2Proof

/-- Settles O1: the row comes back (`decodeRow_encode`), and the setting decides by the row's class what it decodes to. -/
theorem encodeThenDecode : Obligations.EncodeThenDecode := by
  refine ⟨fun i hwf => ?_, fun low => decode_eq_instr_iff.2 ⟨_, decodeRow_encode rfl, rfl⟩⟩
  have hrow := decodeRow_encode hwf
  refine ⟨hrow, fun u hmapped => decode_eq_instr_iff.2 ⟨i, hrow, identity_of_mapped hmapped⟩, fun u hunmapped => ?_⟩
  exact ⟨_, decode_eq_invalid_iff.2 ⟨by rw [hrow, Option.bind_some, identity_of_unmapped hunmapped], rfl⟩⟩

/-- Settles O2: a row's instruction has the word (`isWordOf_decodeRow`), and STBAR's word is that of RDASR with rs1 = 15. -/
theorem decodeThenEncode : Obligations.DecodeThenEncode := by
  refine ⟨fun u w i h => ?_, fun w i => isWordOf_decodeRow⟩
  have hclass := decode_instr_rowClass h
  obtain ⟨row, hrow, hid⟩ := decode_eq_instr_iff.1 h
  obtain ⟨hwf, hword⟩ := isWordOf_decodeRow hrow
  rcases identity_eq_some hid with ⟨rfl, -⟩ | ⟨rfl, low, rfl, rfl⟩
  · exact ⟨hword, hclass, .inl ⟨hwf, hrow⟩⟩
  · exact ⟨hword, hclass, .inr ⟨rfl, low, rfl, hrow⟩⟩

end

section
/-! Which words are Invalid (30_encoding.md R101, R103, R105, R108; 49_unlisted_v8.md R360). `Mapped` is the rule; the decoder's tables are read once against it, arm by arm. -/

namespace Sys2Proof

/-- The op2 codes with an instruction under either setting (R101). -/
def mappedOp2 : List (BitVec 3) := [2#3, 4#3]

/-- The op3 codes of the named instructions of op = 2 (R103). -/
def namedArith : List (BitVec 6) :=
  [0x00#6, 0x01#6, 0x02#6, 0x03#6, 0x04#6, 0x05#6, 0x06#6, 0x07#6, 0x0A#6, 0x0B#6, 0x0E#6, 0x0F#6, 0x10#6, 0x11#6, 0x12#6, 0x13#6, 0x14#6,
    0x15#6, 0x16#6, 0x17#6, 0x1A#6, 0x1B#6, 0x1E#6, 0x1F#6, 0x24#6, 0x25#6, 0x26#6, 0x27#6, 0x28#6, 0x29#6, 0x2A#6, 0x2B#6, 0x30#6, 0x31#6,
    0x32#6, 0x33#6, 0x38#6, 0x39#6, 0x3A#6, 0x3C#6, 0x3D#6]

/-- The op3 codes of the named instructions of op = 3 (R105). -/
def namedMemory : List (BitVec 6) := [0x00#6, 0x01#6, 0x02#6, 0x03#6, 0x04#6, 0x05#6, 0x06#6, 0x07#6, 0x09#6, 0x0A#6]

/-- The op3 codes of op = 2 with an instruction under a setting of IMPL_UNLISTED (R360). -/
def mappedArith : Unlisted → List (BitVec 6)
  | .illegal => namedArith
  | .v8 => namedArith ++ [0x08#6, 0x0C#6, 0x18#6, 0x1C#6, 0x20#6, 0x21#6, 0x22#6, 0x23#6, 0x3B#6]

/-- The op3 codes of op = 3 with an instruction under a setting of IMPL_UNLISTED (R360). -/
def mappedMemory : Unlisted → List (BitVec 6)
  | .illegal => namedMemory
  | .v8 => namedMemory ++ [0x0D#6, 0x0F#6]

/-- The codes of a word are those of an instruction that the setting maps. -/
def Mapped (u : Unlisted) (w : Word) : Prop :=
  fieldOp w = 1#2 ∨ (fieldOp w = 0#2 ∧ fieldOp2 w ∈ mappedOp2) ∨ (fieldOp w = 2#2 ∧ fieldOp3 w ∈ mappedArith u) ∨
    (fieldOp w = 3#2 ∧ fieldOp3 w ∈ mappedMemory u)

theorem not_mapped_iff {u : Unlisted} {w : Word} :
    ¬ Mapped u w ↔ (fieldOp w = 0#2 ∧ fieldOp2 w ∉ mappedOp2) ∨ (fieldOp w = 2#2 ∧ fieldOp3 w ∉ mappedArith u) ∨
      (fieldOp w = 3#2 ∧ fieldOp3 w ∉ mappedMemory u) := by
  rcases fieldOp_cases w with h | h | h | h <;> simp [Mapped, h]

/-! ### The tables -/

theorem isSome_identity_decodeBicc (u : Unlisted) (a : Bool) (disp22 : BitVec 22) (c : Cond) :
    ((decodeBicc a disp22 c).identity u).isSome = true := by
  cases c <;> rfl

theorem isSome_identity_decodeTicc (u : Unlisted) (res : Bool) (rs1 : Reg) (src : Operand2) (c : Cond) :
    ((decodeTicc res rs1 src c).identity u).isSome = true := by
  cases c <;> rfl

/-- STBAR's words are RDASR's with `illegal`, so that every word of op3 = 0x28 is mapped. -/
theorem isSome_identity_decodeRdAsr (u : Unlisted) (rd rs1 : Reg) (low : BitVec 14) :
    ((decodeRdAsr rd rs1 low).identity u).isSome = true := by
  rw [decodeRdAsr]
  split
  · rfl
  · split
    · cases u <;> rfl
    · rfl

theorem isSome_identity_decodeWrAsr (u : Unlisted) (rd rs1 : Reg) (src : Operand2) :
    ((decodeWrAsr rd rs1 src).identity u).isSome = true := by
  rw [decodeWrAsr]
  split <;> rfl

/-- The numbered arms are Bicc and the unassigned codes. -/
theorem isSome_decodeFormat2 (u : Unlisted) (w : Word) (op2 : BitVec 3) :
    ((decodeFormat2 w op2).bind (Instr.identity u)).isSome = decide (op2 ∈ mappedOp2) := by
  fun_cases decodeFormat2 w op2
  case case2 => exact isSome_identity_decodeBicc ..
  case case6 => exact (decide_eq_false (by simp_all [mappedOp2])).symm
  all_goals rfl

/-- The numbered arms are RDY with STBAR and RDASR, WRY with WRASR, Ticc, and the reserved codes. -/
theorem isSome_decodeArith (u : Unlisted) (w : Word) (rd rs1 : Reg) (src : Operand2) (low : BitVec 14) (op3 : BitVec 6) :
    ((decodeArith w rd rs1 src low op3).bind (Instr.identity u)).isSome = decide (op3 ∈ mappedArith u) := by
  fun_cases decodeArith w rd rs1 src low op3
  case case37 => cases u <;> exact isSome_identity_decodeRdAsr ..
  case case41 => cases u <;> exact isSome_identity_decodeWrAsr ..
  case case51 => cases u <;> exact isSome_identity_decodeTicc ..
  case case55 => cases u <;> exact (decide_eq_false (by simp_all [mappedArith, namedArith])).symm
  all_goals cases u <;> rfl

theorem isSome_decodeMemory (u : Unlisted) (rd rs1 : Reg) (src : Operand2) (op3 : BitVec 6) :
    ((decodeMemory rd rs1 src op3).bind (Instr.identity u)).isSome = decide (op3 ∈ mappedMemory u) := by
  fun_cases decodeMemory rd rs1 src op3
  case case39 => cases u <;> exact (decide_eq_false (by simp_all [mappedMemory, namedMemory])).symm
  all_goals cases u <;> rfl

/-- A word has an identity exactly when its codes are mapped (R107, R108, R360). -/
theorem isSome_decodeRow_iff {u : Unlisted} {w : Word} : ((decodeRow w).bind (Instr.identity u)).isSome = true ↔ Mapped u w := by
  rcases fieldOp_cases w with hop | hop | hop | hop
  · rw [decodeRow_of_format2 hop, isSome_decodeFormat2]
    simp [Mapped, hop]
  · rw [decodeRow_of_call hop]
    simp [Mapped, hop, Instr.identity, Instr.rowClass]
  · rw [decodeRow_of_arith hop, isSome_decodeArith]
    simp [Mapped, hop]
  · rw [decodeRow_of_memory hop, isSome_decodeMemory]
    simp [Mapped, hop]

theorem decode_invalid_iff {u : Unlisted} {w : Word} : (∃ c, decode u w = .invalid c) ↔ ¬ Mapped u w := by
  simp only [decode_eq_invalid_iff, ← isSome_decodeRow_iff, exists_and_left, exists_eq', and_true, Option.not_isSome_iff_eq_none]

theorem decode_instr_of_mapped {u : Unlisted} {w : Word} (h : Mapped u w) : ∃ i, decode u w = .instr i := by
  cases hd : decode u w with
  | instr i => exact ⟨i, rfl⟩
  | invalid c => exact absurd h (decode_invalid_iff.1 ⟨c, hd⟩)

/-! ### The record of an Invalid word -/

theorem decodeOperand2_fieldLow (w : Word) :
    decodeOperand2 (fieldLow w) = if w.getLsbD 13 then .imm (w.extractLsb' 0 13) else .reg (w.extractLsb' 5 8) (w.extractLsb' 0 5) := by
  have hfield : ∀ start len, start + len ≤ 14 → (fieldLow w).extractLsb' start len = w.extractLsb' start len := by
    intro start len hle
    ext i hi
    simp only [fieldLow, BitVec.getElem_extractLsb', BitVec.getLsbD_extractLsb', Nat.zero_add]
    rw [decide_eq_true (by omega), Bool.true_and]
  rw [decodeOperand2, hfield 0 13 (by decide), hfield 5 8 (by decide), hfield 0 5 (by decide), fieldLow, BitVec.getLsbD_extractLsb',
    decide_eq_true (by decide), Bool.true_and]

theorem invalidRecord_of_format2 {w : Word} (h : fieldOp w = 0#2) :
    invalidRecord w = .unmappedOp2 (fieldOp2 w) (fieldRd w) (fieldImm22 w) := by
  simp only [invalidRecord, h]

theorem invalidRecord_of_arith {w : Word} (h : fieldOp w = 2#2) :
    invalidRecord w = .unmappedArith (fieldOp3 w) (fieldRd w) (fieldRs1 w) (decodeOperand2 (fieldLow w)) := by
  simp [invalidRecord, h]

theorem invalidRecord_of_memory {w : Word} (h : fieldOp w = 3#2) :
    invalidRecord w = .unmappedMemory (fieldOp3 w) (fieldRd w) (fieldRs1 w) (decodeOperand2 (fieldLow w)) := by
  simp only [invalidRecord, h]

/-- Whatever its record holds, an Invalid word's execution is the trap and nothing else (R108). -/
theorem execDecoded_invalid_raises (c : InvalidRecord) (s : Machine.State) :
    Machine.Raises (Machine.execDecoded (.invalid c) s) s .illegalInstruction := rfl

end Sys2Proof

open Sys2Proof Sys2Proof.Machine

/-- Settles O3: Invalid is `¬ Mapped` under each setting, its record is `invalidRecord` of the word, and executing it is the trap itself. -/
theorem invalidWordsExactly : Obligations.InvalidWordsExactly := by
  refine ⟨fun w => decode_invalid_iff.trans not_mapped_iff, fun w => decode_invalid_iff.trans not_mapped_iff, fun u w c h => ?_,
    execDecoded_invalid_raises⟩
  obtain ⟨-, rfl⟩ := decode_eq_invalid_iff.1 h
  refine ⟨invalidRecord_of_format2, fun src hsrc => ?_⟩
  rw [hsrc, ← decodeOperand2_fieldLow]
  exact ⟨invalidRecord_of_arith, invalidRecord_of_memory⟩

/-- Settles O4: the condition is `Mapped .illegal`; a mapped word latches an instruction, which that setting only maps when it is named. -/
theorem unmappedWordsRaiseByDefault : Obligations.UnmappedWordsRaiseByDefault := by
  rintro w s hu rfl
  have hdec : s.decodeStage.dec = decode .illegal s.slot0 := by rw [State.decodeStage, hu]
  rw [hdec]
  split
  next hmapped =>
    obtain ⟨i, hi⟩ := decode_instr_of_mapped (u := .illegal) hmapped
    exact ⟨i, hi, (decode_instr_rowClass hi).resolve_right nofun⟩
  next hmapped =>
    obtain ⟨c, hc⟩ := (decode_invalid_iff (u := .illegal)).2 hmapped
    exact ⟨⟨c, hc⟩, hc ▸ execDecoded_invalid_raises c s⟩

/-- Settles O5, by running the decoder on the words. -/
theorem sampleWordsDecode : Obligations.SampleWordsDecode := by
  refine ⟨fun u => ?_, by decide⟩
  cases u with
  | illegal => decide
  | v8 => decide

/-- Settles O20, condition by condition: every code is the code of its condition. -/
theorem conditionTable : Obligations.ConditionTable := by
  intro c f
  obtain ⟨cond, rfl⟩ : ∃ cond, condCode cond = c := ⟨condOfCode c, condCode_condOfCode c⟩
  rw [condOfCode_condCode]
  cases cond <;> simp [condHolds, condCode]

end

section
/-! The condition-code flags (40_condition_codes.md R131 to R138). The two overflow flags are the library's `saddOverflow` and `ssubOverflow`, which give them their signed ranges; on the flags of a subtraction Z is equality, N xor V the signed order and C the unsigned order. -/

namespace Sys2Proof.Machine

/-! ### N and Z, and the logical cc instructions -/

theorem flagN_eq_getLsbD (r : Word) : flagN r = r.getLsbD 31 := r.msb_eq_getLsbD_last

theorem flagZ_eq_decide (r : Word) : flagZ r = decide (r = 0) := beq_eq_decide _ _

theorem iccLogic_eq (r : Word) : iccLogic r = { n := r.getLsbD 31, z := decide (r = 0), v := false, c := false } := by
  rw [iccLogic, flagN_eq_getLsbD, flagZ_eq_decide]

theorem givesReg_logicCc {s : State} (hs : s.sized = true) (hq : s.quiet = true) (f : Word → Word → Word) (rd rs1 : Reg) (src : Operand2)
    {r : Word} (hr : r = f (s.reg rs1) (s.operand2 src)) :
    GivesReg (logicCc f rd rs1 src s) s rd r { n := r.getLsbD 31, z := decide (r = 0), v := false, c := false } s.y := by
  subst hr
  rw [← iccLogic_eq]
  exact givesReg_finishCc hs hq rd _ _

/-! ### V -/

theorem addOverflow_eq_saddOverflow (a b : Word) : addOverflow a b (a + b) = a.saddOverflow b := by
  rw [BitVec.saddOverflow_eq, addOverflow, bne, BEq.comm (a := a.msb) (b := (a + b).msb)]

theorem subOverflow_eq_ssubOverflow (a b : Word) : subOverflow a b (a - b) = a.ssubOverflow b := by
  rw [BitVec.ssubOverflow_eq, subOverflow]
  cases a.msb <;> cases b.msb <;> simp

theorem addOverflow_bits (a b r : Word) : addOverflow a b r = ((a.msb && b.msb && !r.msb) || (!a.msb && !b.msb && r.msb)) := by
  rw [addOverflow]
  cases a.msb <;> cases b.msb <;> simp

theorem subOverflow_bits (a b r : Word) : subOverflow a b r = ((a.msb && !b.msb && !r.msb) || (!a.msb && b.msb && r.msb)) := by
  rw [subOverflow]
  cases a.msb <;> cases b.msb <;> simp

theorem addOverflow_signedRange (a b : Word) :
    addOverflow a b (a + b) = decide (a.toInt + b.toInt < -2 ^ 31 ∨ 2 ^ 31 ≤ a.toInt + b.toInt) := by
  rw [addOverflow_eq_saddOverflow, BitVec.saddOverflow, Bool.or_comm, Bool.decide_or]

theorem subOverflow_signedRange (a b : Word) :
    subOverflow a b (a - b) = decide (a.toInt - b.toInt < -2 ^ 31 ∨ 2 ^ 31 ≤ a.toInt - b.toInt) := by
  rw [subOverflow_eq_ssubOverflow, BitVec.ssubOverflow, Bool.or_comm, Bool.decide_or]

/-! ### C -/

@[simp] theorem iccAdd_c (a b r : Word) : (iccAdd a b false r).c = decide (2 ^ 32 ≤ a.toNat + b.toNat) := rfl

@[simp] theorem iccSub_c (a b r : Word) : (iccSub a b false r).c = decide (a.toNat < b.toNat) := rfl

theorem iccAdd_c_bits (a b : Word) :
    (iccAdd a b false (a + b)).c = ((a.msb && b.msb) || (!(a + b).msb && (a.msb || b.msb))) := by
  rw [iccAdd_c, Bool.eq_iff_iff]
  simp only [BitVec.msb_eq_decide, BitVec.toNat_add, decide_eq_true_eq, Bool.or_eq_true, Bool.and_eq_true,
    Bool.not_eq_true', decide_eq_false_iff_not]
  omega

theorem iccSub_c_bits (a b : Word) :
    (iccSub a b false (a - b)).c = ((!a.msb && b.msb) || ((a - b).msb && (!a.msb || b.msb))) := by
  rw [iccSub_c, Bool.eq_iff_iff]
  simp only [BitVec.msb_eq_decide, BitVec.toNat_sub, decide_eq_true_eq, Bool.or_eq_true, Bool.and_eq_true,
    Bool.not_eq_true', decide_eq_false_iff_not]
  omega

/-! ### The flags of a subtraction, as comparisons -/

theorem flagZ_sub (a b : Word) : flagZ (a - b) = decide (a = b) := by
  rw [flagZ_eq_decide, decide_eq_decide, sub_eq_zero]

/-- Without overflow the difference has its true sign; with it the operands' signs differ, and the result's is the second's. -/
theorem negative_xor_overflow_sub (a b : Word) : (flagN (a - b) ^^ subOverflow a b (a - b)) = decide (a.toInt < b.toInt) := by
  cases hv : subOverflow a b (a - b)
  case false =>
    have hno : ¬a.ssubOverflow b = true := by simp [← subOverflow_eq_ssubOverflow, hv]
    simp [flagN, BitVec.msb_eq_toInt, BitVec.toInt_sub_of_not_ssubOverflow hno]
  case true =>
    obtain ⟨hsigns, hresult⟩ : ¬a.msb = b.msb ∧ b.msb = (a - b).msb := by simpa [subOverflow] using hv
    rw [flagN, ← hresult]
    simp only [BitVec.msb_eq_toInt, decide_eq_decide, Bool.xor_true, ← decide_not] at hsigns ⊢
    omega

end Sys2Proof.Machine

open Sys2Proof Sys2Proof.Machine

/-- Settles O19: the signed ranges, then the bit formulas, of which V's hold for any result. -/
theorem overflowIsSignedRange : Obligations.OverflowIsSignedRange := by
  intro a b
  refine ⟨addOverflow_signedRange a b, subOverflow_signedRange a b, ?_, ?_⟩
  · rintro r rfl
    exact ⟨addOverflow_bits a b _, iccAdd_c_bits a b⟩
  · rintro r rfl
    exact ⟨subOverflow_bits a b _, iccSub_c_bits a b⟩

/-- Settles O21: each condition is made of Z, N xor V and C, which compare the operands. -/
theorem conditionsAfterCompare : Obligations.ConditionsAfterCompare := by
  rintro a b f rfl
  have hz : (iccSub a b false (a - b)).z = decide (a = b) := flagZ_sub a b
  have hlt : ((iccSub a b false (a - b)).n ^^ (iccSub a b false (a - b)).v) = decide (a.toInt < b.toInt) :=
    negative_xor_overflow_sub a b
  have hle : (decide (a = b) || decide (a.toInt < b.toInt)) = decide (a.toInt ≤ b.toInt) := by
    rw [← Bool.decide_or, decide_eq_decide, ← BitVec.toInt_inj, le_iff_eq_or_lt]
  have hleu : (decide (a.toNat < b.toNat) || decide (a = b)) = decide (a.toNat ≤ b.toNat) := by
    rw [← Bool.decide_or, decide_eq_decide, ← BitVec.toNat_inj, le_iff_lt_or_eq]
  simp only [condHolds, hz, hlt, iccSub_c, hle, hleu, ← decide_not, not_lt, not_le, and_self]

/-- Settles O15, instruction by instruction. -/
theorem logicalCcResults : Obligations.LogicalCcResults := by
  rintro s rd rs1 src hs hq a b rfl rfl
  exact ⟨givesReg_logicCc hs hq (· &&& ·) rd rs1 src rfl, givesReg_logicCc hs hq (· ||| ·) rd rs1 src rfl,
    givesReg_logicCc hs hq (· ^^^ ·) rd rs1 src rfl, givesReg_logicCc hs hq andn rd rs1 src rfl,
    givesReg_logicCc hs hq orn rd rs1 src rfl, givesReg_logicCc hs hq xnor rd rs1 src rfl⟩

end


section
/-! The ALU instructions that set no flags, and ADDcc and SUBcc (41_alu.md R150 to R183): the outcome of each shape of instruction, then the words the model computes, as the numbers the rules give. -/

namespace Sys2Proof.Machine

/-! ### The operands -/

theorem State.operand2_imm (s : State) (v : BitVec 13) : s.operand2 (.imm v) = BitVec.ofInt 32 v.toInt := rfl

theorem State.operand2_reg (s : State) (asi : BitVec 8) (r : Reg) : s.operand2 (.reg asi r) = s.reg r := rfl

/-- The second operand's two forms: the immediate as a signed number, or a register whatever asi is (30_encoding.md R97, R98). -/
theorem State.operand2_forms (s : State) (src : Operand2) :
    (∀ v : BitVec 13, src = .imm v → s.operand2 src = BitVec.ofInt 32 v.toInt) ∧
    ∀ (asi : BitVec 8) (r : Reg), src = .reg asi r → s.operand2 src = s.reg r := by
  refine ⟨?_, ?_⟩
  · rintro v rfl
    exact s.operand2_imm v
  · rintro asi r rfl
    exact s.operand2_reg asi r

theorem State.shiftCount_eq_mod (s : State) (src : Operand2) : s.shiftCount src = (s.operand2 src).toNat % 32 := by
  rw [State.shiftCount, BitVec.extractLsb'_toNat, Nat.shiftRight_zero]

/-! ### The shapes of instruction -/

section
variable {s : State} (hs : s.sized = true) (hq : s.quiet = true) (rd rs1 : Reg) (src : Operand2) {r : Word}
include hs hq

theorem givesReg_alu (f : Word → Word → Word) (hr : r = f (s.reg rs1) (s.operand2 src)) :
    GivesReg (alu f rd rs1 src s) s rd r s.psr.icc s.y := by
  subst hr
  exact givesReg_finish hs hq rd _

theorem givesReg_aluCc (f : Word → Word → Word) (icc : Word → Word → Word → Icc) (hr : r = f (s.reg rs1) (s.operand2 src)) :
    GivesReg (aluCc f icc rd rs1 src s) s rd r (icc (s.reg rs1) (s.operand2 src) r) s.y := by
  subst hr
  exact givesReg_finishCc hs hq rd _ _

theorem givesReg_shift (f : Word → Nat → Word) (hr : r = f (s.reg rs1) ((s.operand2 src).toNat % 32)) :
    GivesReg (shift f rd rs1 src s) s rd r s.psr.icc s.y := by
  rw [hr, ← State.shiftCount_eq_mod]
  exact givesReg_finish hs hq rd _
end

/-! ### The results, as numbers -/

theorem sub_eq_ofInt (a b : Word) : a - b = BitVec.ofInt 32 (a.toInt - b.toInt) := by
  apply BitVec.eq_of_toInt_eq
  rw [BitVec.toInt_sub, BitVec.toInt_ofInt]

theorem sethiValue_eq_ofNat (imm22 : BitVec 22) : sethiValue imm22 = BitVec.ofNat 32 (imm22.toNat * 2 ^ 10) := by
  rw [← sethiValue_toNat, BitVec.ofNat_toNat, BitVec.setWidth_eq]

theorem shiftLeft_eq_ofNat (a : Word) (k : Nat) : a <<< k = BitVec.ofNat 32 (a.toNat * 2 ^ k) := by
  rw [← Nat.shiftLeft_eq]
  rfl

theorem ushiftRight_eq_ofNat (a : Word) (k : Nat) : a >>> k = BitVec.ofNat 32 (a.toNat / 2 ^ k) := by
  rw [← Nat.shiftRight_eq_div_pow, ← BitVec.toNat_ushiftRight, BitVec.ofNat_toNat, BitVec.setWidth_eq]

theorem sshiftRight_eq_ofInt (a : Word) (k : Nat) : a.sshiftRight k = BitVec.ofInt 32 (a.toInt / 2 ^ k) := by
  rw [BitVec.sshiftRight_eq, Int.shiftRight_eq_div_pow, Int.natCast_pow, Int.cast_ofNat_Int]

/-! ### The flags, bit by bit -/

theorem iccAdd_eq (a b r : Word) : iccAdd a b false r =
    { n := r.getLsbD 31, z := decide (r = 0), v := a.getLsbD 31 == b.getLsbD 31 && a.getLsbD 31 != r.getLsbD 31,
      c := decide (2 ^ 32 ≤ a.toNat + b.toNat) } := by
  simp only [← flagN_eq_getLsbD, ← flagZ_eq_decide]
  rfl

theorem iccSub_eq (a b r : Word) : iccSub a b false r =
    { n := r.getLsbD 31, z := decide (r = 0), v := a.getLsbD 31 != b.getLsbD 31 && b.getLsbD 31 == r.getLsbD 31,
      c := decide (a.toNat < b.toNat) } := by
  simp only [← flagN_eq_getLsbD, ← flagZ_eq_decide]
  rfl

end Sys2Proof.Machine

open Sys2Proof Sys2Proof.Machine

/-- Settles O14: the two forms of the second operand, then instruction by instruction. -/
theorem logicalResults : Obligations.LogicalResults := by
  rintro s rd rs1 src hs hq a b rfl rfl
  obtain ⟨himm, hreg⟩ := s.operand2_forms src
  exact ⟨himm, hreg, givesReg_alu hs hq rd rs1 src (· &&& ·) rfl, givesReg_alu hs hq rd rs1 src (· ||| ·) rfl,
    givesReg_alu hs hq rd rs1 src (· ^^^ ·) rfl, givesReg_alu hs hq rd rs1 src andn rfl,
    givesReg_alu hs hq rd rs1 src orn rfl, givesReg_alu hs hq rd rs1 src xnor rfl⟩

/-- Settles O16: the model's sum is by definition the sum of the numbers; its difference and SETHI's value have their lemmas. -/
theorem sethiAddSubResults : Obligations.SethiAddSubResults := by
  rintro s rd rs1 src hs hq a b rfl rfl
  obtain ⟨himm, hreg⟩ := s.operand2_forms src
  refine ⟨himm, hreg, givesReg_alu hs hq rd rs1 src (· + ·) rfl, givesReg_alu hs hq rd rs1 src (· - ·) (sub_eq_ofInt _ _).symm,
    fun imm22 => ?_⟩
  rw [← sethiValue_eq_ofNat]
  exact givesReg_finish hs hq rd _

/-- Settles O17: both are `aluCc`, with the flags of an addition and of a subtraction. -/
theorem addSubCcResults : Obligations.AddSubCcResults := by
  rintro s rd rs1 src hs hq a b rfl rfl
  rw [← iccAdd_eq, ← iccSub_eq]
  exact ⟨givesReg_aluCc hs hq rd rs1 src (· + ·) (iccAdd · · false ·) rfl,
    givesReg_aluCc hs hq rd rs1 src (· - ·) (iccSub · · false ·) rfl⟩

/-- Settles O18: a shift's count is op2val mod 32, and its result the product or quotient by that power of two. -/
theorem shiftResults : Obligations.ShiftResults := by
  rintro s rd rs1 src hs hq a k rfl rfl
  exact ⟨givesReg_shift hs hq rd rs1 src (· <<< ·) (shiftLeft_eq_ofNat _ _).symm,
    givesReg_shift hs hq rd rs1 src (· >>> ·) (ushiftRight_eq_ofNat _ _).symm,
    givesReg_shift hs hq rd rs1 src BitVec.sshiftRight (sshiftRight_eq_ofInt _ _).symm⟩

end


section
/-! Multiply, divide and multiply-step (42_muldiv.md R190 to R201): the outcome of each shape of instruction, then the products, the quotients and MULScc's shifts as the numbers the rules give. -/

namespace Sys2Proof.Machine

/-! ### The shapes of instruction -/

section
variable {s : State} (hs : s.sized = true) (hq : s.quiet = true) (rd rs1 : Reg) (src : Operand2)
include hs hq

theorem givesReg_mul (product : Word → Word → BitVec 64) {lo hi : Word} (hlo : lowWord (product (s.reg rs1) (s.operand2 src)) = lo)
    (hhi : highWord (product (s.reg rs1) (s.operand2 src)) = hi) :
    GivesReg (mul product rd rs1 src s) s rd lo s.psr.icc hi := by
  subst hlo hhi
  exact givesReg_setY hs hq rd _ _

theorem givesReg_mulCc (product : Word → Word → BitVec 64) {lo hi : Word} (hlo : lowWord (product (s.reg rs1) (s.operand2 src)) = lo)
    (hhi : highWord (product (s.reg rs1) (s.operand2 src)) = hi) :
    GivesReg (mulCc product rd rs1 src s) s rd lo { n := lo.getLsbD 31, z := decide (lo = 0), v := false, c := false } hi := by
  subst hlo hhi
  rw [← iccLogic_eq]
  exact givesReg_setY_setIcc hs hq rd _ _ _

theorem givesReg_div (quotient : Word → Word → Word → Quotient) (hb : s.operand2 src ≠ 0) {w : Word} {o : Bool}
    (hw : quotient s.y (s.reg rs1) (s.operand2 src) = { word := w, overflow := o }) :
    GivesReg (div quotient rd rs1 src s) s rd w s.psr.icc s.y := by
  rw [div, if_neg hb, hw]
  exact givesReg_finish hs hq rd _

theorem givesReg_divCc (quotient : Word → Word → Word → Quotient) (hb : s.operand2 src ≠ 0) {w : Word} {o : Bool}
    (hw : quotient s.y (s.reg rs1) (s.operand2 src) = { word := w, overflow := o }) :
    GivesReg (divCc quotient rd rs1 src s) s rd w { n := w.getLsbD 31, z := decide (w = 0), v := o, c := false } s.y := by
  rw [divCc, if_neg hb, hw, ← flagN_eq_getLsbD, ← flagZ_eq_decide]
  exact givesReg_finishCc hs hq rd _ _
end

theorem raises_div (quotient : Word → Word → Word → Quotient) (rd rs1 : Reg) {src : Operand2} {s : State} (hb : s.operand2 src = 0) :
    Raises (div quotient rd rs1 src s) s .divisionByZero := if_pos hb

theorem raises_divCc (quotient : Word → Word → Word → Quotient) (rd rs1 : Reg) {src : Operand2} {s : State} (hb : s.operand2 src = 0) :
    Raises (divCc quotient rd rs1 src s) s .divisionByZero := if_pos hb

/-! ### The two words of a product -/

theorem lowWord_ofInt (q : Int) : lowWord (BitVec.ofInt 64 q) = BitVec.ofInt 32 q := by
  apply BitVec.eq_of_toNat_eq
  simp only [lowWord, BitVec.extractLsb'_toNat, BitVec.toNat_ofInt, Nat.shiftRight_zero]
  omega

theorem highWord_ofInt (q : Int) : highWord (BitVec.ofInt 64 q) = BitVec.ofInt 32 (q / 2 ^ 32) := by
  apply BitVec.eq_of_toNat_eq
  simp only [highWord, BitVec.extractLsb'_toNat, BitVec.toNat_ofInt, Nat.shiftRight_eq_div_pow]
  omega

theorem lowWord_ofNat (p : Nat) : lowWord (BitVec.ofNat 64 p) = BitVec.ofNat 32 p := by
  simpa using lowWord_ofInt p

theorem highWord_ofNat (p : Nat) : highWord (BitVec.ofNat 64 p) = BitVec.ofNat 32 (p / 2 ^ 32) := by
  have h := highWord_ofInt p
  have hdiv : (p : Int) / 2 ^ 32 = (p / 2 ^ 32 : Nat) := by simp
  rwa [hdiv, BitVec.ofInt_natCast, BitVec.ofInt_natCast] at h

/-! ### The quotients -/

theorem toInt_append_word (y a : Word) : (y ++ a).toInt = y.toInt * 2 ^ 32 + a.toNat := by
  rw [BitVec.toInt_append, if_neg (by decide), Int.mul_comm]

theorem udivQuotient_eq {y a b : Word} {p : Nat} (hp : p = (y.toNat * 2 ^ 32 + a.toNat) / b.toNat) :
    udivQuotient y a b = { word := if 2 ^ 32 - 1 < p then 0xFFFFFFFF else BitVec.ofNat 32 p, overflow := decide (2 ^ 32 - 1 < p) } := by
  have habove : 2 ^ 32 ≤ p ↔ 2 ^ 32 - 1 < p := by omega
  simp only [udivQuotient, toNat_append_add, ← hp, habove]
  split
  next h => rw [decide_eq_true h]
  next h => rw [decide_eq_false h]

theorem sdivQuotient_eq {y a b : Word} {q : Int} (hq : q = (y.toInt * 2 ^ 32 + a.toNat).tdiv b.toInt) :
    sdivQuotient y a b =
      { word := if 2 ^ 31 - 1 < q then 0x7FFFFFFF else if q < -2 ^ 31 then 0x80000000 else BitVec.ofInt 32 q,
        overflow := decide (2 ^ 31 - 1 < q ∨ q < -2 ^ 31) } := by
  have habove : 2 ^ 31 ≤ q ↔ 2 ^ 31 - 1 < q := by omega
  simp only [sdivQuotient, toInt_append_word, ← hq, habove]
  split
  next h => rw [decide_eq_true (.inl h)]
  next h =>
    split
    next h' => rw [decide_eq_true (.inr h')]
    next h' => rw [decide_eq_false (not_or.2 ⟨h, h'⟩)]

/-- A dividend whose Y is the sign extension of a is a itself (42_muldiv.md R201). -/
theorem signExtended_dividend (a : Word) : (if a.msb then 0xFFFFFFFF else 0 : Word).toInt * 2 ^ 32 + a.toNat = a.toInt := by
  rw [a.toInt_eq_msb_cond]
  cases a.msb
  · simp
  · simp
    omega

/-- The quotient of two words is a word's value, except that of -2^31 by -1 (42_muldiv.md R201). -/
theorem tdiv_out_of_range_iff (a b : Word) :
    (2 ^ 31 - 1 < a.toInt.tdiv b.toInt ∨ a.toInt.tdiv b.toInt < -2 ^ 31) ↔ a = 0x80000000 ∧ b = 0xFFFFFFFF := by
  constructor
  · intro hout
    by_contra hne
    have hq : (a.sdiv b).toInt = a.toInt.tdiv b.toInt := BitVec.toInt_sdiv_of_ne_or_ne a b (not_and_or.1 hne)
    have hlt : (a.sdiv b).toInt < 2 ^ 31 := BitVec.toInt_lt
    have hle : -2 ^ 31 ≤ (a.sdiv b).toInt := BitVec.le_toInt _
    omega
  · rintro ⟨rfl, rfl⟩
    decide

/-! ### MULScc -/

/-- A shift right by one place with a bit entering at bit 31, which MULScc does to x[rs1] and to Y. -/
theorem shiftIn_eq_ofNat (t : Bool) (a : Word) :
    bit t ++ a.extractLsb' 1 31 = BitVec.ofNat 32 (a.toNat / 2 + if t then 2 ^ 31 else 0) := by
  have hshift : (a.extractLsb' 1 31).toNat = a.toNat / 2 := by
    rw [BitVec.extractLsb'_toNat, Nat.shiftRight_eq_div_pow]
    omega
  apply BitVec.eq_of_toNat_eq
  rw [toNat_append_add, toNat_bit, hshift, BitVec.toNat_ofNat]
  cases t
  · simp
    omega
  · simp
    omega

theorem mulsccFirst_eq_ofNat (f : Icc) (a : Word) :
    mulsccFirst f a = BitVec.ofNat 32 (a.toNat / 2 + if f.n ^^ f.v then 2 ^ 31 else 0) := shiftIn_eq_ofNat _ a

theorem extractLsb'_zero_one (a : Word) : a.extractLsb' 0 1 = bit (a.getLsbD 0) := by
  ext i hi
  obtain rfl : i = 0 := by omega
  simp [bit]

theorem mulsccY_eq_ofNat (y a : Word) :
    mulsccY y a = BitVec.ofNat 32 (y.toNat / 2 + if a.getLsbD 0 then 2 ^ 31 else 0) := by
  rw [mulsccY, extractLsb'_zero_one]
  exact shiftIn_eq_ofNat _ y

end Sys2Proof.Machine

open Sys2Proof Sys2Proof.Machine

/-- Settles O24: floor(u(D) / u(b)) reaches 2^32 exactly when u(D) reaches u(b) * 2^32; a sign-extended dividend is the word a. -/
theorem divideOverflowBoundary : Obligations.DivideOverflowBoundary := by
  intro y a b hb
  have hb_pos : 0 < b.toNat := BitVec.toNat_pos_of_ne_zero hb
  refine ⟨?_, ?_⟩
  · rw [udivQuotient_eq rfl, decide_eq_decide, ← Nat.succ_le_iff, Nat.le_div_iff_mul_le hb_pos]
    omega
  · rintro rfl
    rw [sdivQuotient_eq rfl, signExtended_dividend, decide_eq_decide]
    exact tdiv_out_of_range_iff a b

/-- Settles O22: the two words of each product, for the form without flags and the one with. -/
theorem multiplyResults : Obligations.MultiplyResults := by
  rintro s rd rs1 src hs hq p q rfl rfl
  exact ⟨givesReg_mul hs hq rd rs1 src umulProduct (lowWord_ofNat _) (highWord_ofNat _),
    givesReg_mulCc hs hq rd rs1 src umulProduct (lowWord_ofNat _) (highWord_ofNat _),
    givesReg_mul hs hq rd rs1 src smulProduct (lowWord_ofInt _) (highWord_ofInt _),
    givesReg_mulCc hs hq rd rs1 src smulProduct (lowWord_ofInt _) (highWord_ofInt _)⟩

/-- Settles O23: the raise of a zero divisor, then the clamped quotient and whether it was clamped. -/
theorem divideResults : Obligations.DivideResults := by
  rintro s rd rs1 src b rfl
  refine ⟨fun hb => ?_, ?_⟩
  · exact ⟨raises_div udivQuotient rd rs1 hb, raises_divCc udivQuotient rd rs1 hb, raises_div sdivQuotient rd rs1 hb,
      raises_divCc sdivQuotient rd rs1 hb⟩
  · rintro hb hs hq p q u v hp hq' rfl rfl
    exact ⟨givesReg_div hs hq rd rs1 src udivQuotient hb (udivQuotient_eq hp),
      givesReg_divCc hs hq rd rs1 src udivQuotient hb (udivQuotient_eq hp),
      givesReg_div hs hq rd rs1 src sdivQuotient hb (sdivQuotient_eq hq'),
      givesReg_divCc hs hq rd rs1 src sdivQuotient hb (sdivQuotient_eq hq')⟩

/-- Settles O25: MULScc's two operands and its new Y are the model's, and its flags those of an addition. -/
theorem multiplyStepResult : Obligations.MultiplyStepResult := by
  rintro s rd rs1 src hs hq a b o1 o2 y rfl rfl rfl rfl rfl
  rw [← mulsccFirst_eq_ofNat, ← mulsccY_eq_ofNat, ← iccAdd_eq]
  exact givesReg_setY_setIcc hs hq rd _ _ _

end


section
/-! CALL, JMPL and RETT (44_control_transfer.md R241 to R243): what each executes, then the two outcomes of a transfer that completes, a link written and a mode restored. -/

namespace Sys2Proof.Machine

/-! ### The instructions' meanings -/

theorem exec_call (disp30 : BitVec 30) (s : State) :
    exec (.call disp30) s = ((s.setReg 15 s.pc).setNpc2 (s.pc + BitVec.ofInt 32 (disp30.toInt * 4))).complete := by
  rw [← callOffset_eq]; rfl

section
variable {s : State} {rs1 : Reg} {src : Operand2} {t : Word} (ht : t = s.reg rs1 + s.operand2 src) (rd : Reg)
include ht

theorem exec_jmpl : exec (.jmpl rd rs1 src) s =
    if t.toNat % 4 = 0 then ((s.setReg rd s.pc).setNpc2 t).complete else s.trap .memAddressNotAligned := by
  subst ht; rw [← State.requireAligned4_eq]; rfl

/-- RETT's four checks in their order (44_control_transfer.md R243). -/
theorem exec_rett : exec (.rett rd rs1 src) s =
    if s.psr.s = true then
      if s.psr.et = true then s.trap .illegalInstruction
      else if s.windowInvalid (nextWindow s.cfg.nwin s.psr.cwp) = true then s.trap .windowUnderflow
      else if t.toNat % 4 = 0 then (s.returnFromTrap (nextWindow s.cfg.nwin s.psr.cwp) t).complete
      else s.trap .memAddressNotAligned
    else s.trap .privilegedInstruction := by
  subst ht; rw [← State.requireAligned4_eq]; rfl
end

/-! ### The outcomes of a transfer -/

/-- A quiet state that links and schedules a target proceeds to it after the delay slot (44_control_transfer.md R240). -/
theorem givesLink_setReg_setNpc2 {s : State} (hs : s.sized = true) (hq : s.quiet = true) (rd : Reg) (target : Word) :
    GivesLink ((s.setReg rd s.pc).setNpc2 target).complete s rd target := by
  have hk : Keeps s ((s.setReg rd s.pc).setNpc2 target) := by constructor <;> simp
  obtain ⟨hc, hp⟩ := proceeds_of hk (hk.quiet hq) (State.setNpc2_npc2 _ target)
  have hw : Writes s ((s.setReg rd s.pc).setNpc2 target) rd s.pc := (writes_setReg hs rfl rfl rd s.pc).congr rfl rfl rfl rfl
  refine ⟨_, hc, hp, hw.advance, ?_, sameBytes_of_mem ?_⟩
  · constructor <;> simp
  · simp

/-- The outcome of an instruction that leaves `psr` in PSR and writes no general register and no memory. Quiet is asked of the state `e` it leaves, whose ET and PIL may be new (60_exceptions.md R462). -/
theorem givesSpecials_of {s e : State} {psr : Psr} {target : Word} (hk : Keeps (s.setPsr psr) e) (hq : e.quiet = true)
    (hn : e.npc2 = target) (hg : e.globals = s.globals) (hw : e.windows = s.windows) (hp : e.psr = psr) (hm : e.mem = s.mem) :
    GivesSpecials e.complete s target psr e.wim e.tbr e.y := by
  obtain ⟨hc, hpr⟩ := proceeds_of hk hq hn
  refine ⟨e.advance, hc, { hpr with }, fun c => ?_, sameBytes_of_mem hm, hp, rfl, rfl, rfl⟩
  rw [readCell_advance]
  exact State.readCell_congr hg hw c

/-- The state RETT leaves is quiet when nothing pending is eligible under the ET it restores (60_exceptions.md R462). -/
theorem State.quiet_returnFromTrap {s : State} (hq : s.quietWith true s.psr.pil = true) (window : BitVec 5) (target : Word) :
    (s.returnFromTrap window target).quiet = true :=
  (State.quiet_congr rfl rfl rfl rfl rfl).trans hq

theorem givesSpecials_returnFromTrap {s : State} (hq : s.quietWith true s.psr.pil = true) (window : BitVec 5) (target : Word) :
    GivesSpecials (s.returnFromTrap window target).complete s target
      { s.psr with cwp := window, s := s.psr.ps, et := true } s.wim s.tbr s.y :=
  givesSpecials_of (e := s.returnFromTrap window target) (by constructor <;> rfl) (State.quiet_returnFromTrap hq window target)
    rfl rfl rfl rfl rfl

/-- The window RETT tests, by its number (44_control_transfer.md R243). -/
theorem State.windowInvalid_nextWindow {s : State} (hs : s.sized = true) :
    s.windowInvalid (nextWindow s.cfg.nwin s.psr.cwp) = s.wim.getLsbD ((s.psr.cwp.toNat + 1) % s.cfg.nwin) := by
  obtain ⟨⟨h2, h32⟩, -⟩ := s.sized_iff.1 hs
  rw [State.windowInvalid, nextWindow_toNat h2 h32]

end Sys2Proof.Machine

open Sys2Proof.Machine

/-- Settles O33: a link in r15 and a scheduled target. -/
theorem callResult : Obligations.CallResult := by
  intro s disp30 hs hq
  rw [exec_call]
  exact givesLink_setReg_setNpc2 hs hq 15 _

/-- Settles O34: the target's alignment decides between the trap and the link. -/
theorem jmplResult : Obligations.JmplResult := by
  intro s rd rs1 src t ht
  rw [exec_jmpl ht]
  refine ⟨fun ha => ?misaligned, fun ha hs hq => ?aligned⟩
  case misaligned => rw [if_neg ha]; rfl
  case aligned =>
    rw [if_pos ha]
    exact givesLink_setReg_setNpc2 hs hq rd t

/-- Settles O35: one clause for each of the checks, and the return once all four have passed. -/
theorem returnFromTrap : Obligations.ReturnFromTrap := by
  rintro s rd rs1 src n t hs rfl ht
  rw [exec_rett ht, State.windowInvalid_nextWindow hs]
  refine ⟨fun hu => ?user, fun hS he => ?enabled, fun hS he hw => ?window, fun hS he hw ha => ?misaligned, fun hS he hw ha hq => ?returns⟩
  case user => simp only [hu, Bool.false_eq_true, if_false]; rfl
  case enabled => simp only [hS, he, if_true]; rfl
  case window => simp only [hS, he, hw, Bool.false_eq_true, if_true, if_false]; rfl
  case misaligned => simp only [hS, he, hw, ha, Bool.false_eq_true, if_true, if_false]; rfl
  case returns =>
    simp only [hS, he, hw, ha, Bool.false_eq_true, if_true, if_false]
    exact givesSpecials_returnFromTrap hq _ t

end


section
/-! The Bicc (45_branches.md R260 to R262): what a branch executes, then the two outcomes of one that does not fall through, a target after the delay slot and a target in place of it. -/

namespace Sys2Proof.Machine

/-! ### The instructions' meanings -/

/-- BA's annul bit acts with BA_ANNUL = v8 only (45_branches.md R262). -/
theorem exec_ba_delayed {s : State} {a : Bool} (h : s.cfg.baAnnul = .doc ∨ a = false) (disp22 : BitVec 22) :
    exec (.ba a disp22) s = (s.setNpc2 (s.pc + BitVec.ofInt 32 (disp22.toInt * 4))).complete := by
  rw [← branchOffset_eq]
  change (s.branchAlways a disp22).complete = _
  rcases h with hdoc | rfl
  · rw [State.branchAlways, hdoc]
  · rw [State.branchAlways]; split <;> rfl

/-- A taken Bicc schedules its target whatever its annul bit, BA's own rule apart (45_branches.md R260, R262). -/
theorem exec_decodeBicc_taken {s : State} {c : Cond} {a : Bool} (hc : condHolds c s.psr.icc = true)
    (hba : c = .a → s.cfg.baAnnul = .doc ∨ a = false) (disp22 : BitVec 22) :
    exec (decodeBicc a disp22 c) s = (s.setNpc2 (s.pc + BitVec.ofInt 32 (disp22.toInt * 4))).complete := by
  by_cases hne : c = .a
  · subst hne; exact exec_ba_delayed (hba rfl) disp22
  · rw [exec_decodeBicc hne, State.branch, if_pos hc, branchOffset_eq]

/-- An untaken Bicc with a = 0 has no effect (45_branches.md R261). -/
theorem exec_decodeBicc_untaken_noAnnul {s : State} {c : Cond} (hc : condHolds c s.psr.icc = false) (disp22 : BitVec 22) :
    exec (decodeBicc false disp22 c) s = s.complete := by
  have hne : c ≠ .a := by rintro rfl; simp [condHolds] at hc
  rw [exec_decodeBicc hne, State.branch, hc, if_neg (by decide), if_neg (by decide)]

/-! ### The outcomes of a branch -/

theorem givesMove_setNpc2 {s : State} (hq : s.quiet = true) (target : Word) : GivesMove (s.setNpc2 target).complete s target :=
  givesMove_of (by constructor <;> rfl) hq rfl rfl rfl rfl rfl rfl rfl rfl

/-- `r` is a next state in which the delay slot was skipped: the next instruction is the one at `target`, fetched anew, and nothing changed but the triple and the pipeline register (50_pipeline_controller.md R403). -/
def GivesSkip (r : Result) (s : State) (target : Word) : Prop :=
  ∃ t, r = .next t ∧ t.pc = target ∧ t.npc = target + 4 ∧ t.npc2 = target + 8 ∧ t.slot0 = s.wordAt target ∧
    t.slot1 = s.wordAt target ∧ t.annul = false ∧ t.pending = s.pending ∧ t.status = s.status ∧
    t.bootEntry = s.bootEntry ∧ t.cfg = s.cfg ∧ SameRegs s t ∧ SameSpecials s t ∧ SameBytes s t

/-- A step that annuls, and would be quiet otherwise, advances from the state the fix-up leaves (50_pipeline_controller.md R403, R405). -/
theorem State.complete_setAnnul {s : State} (hq : s.quiet = true) (hf : s.portFaults .fetch s.npc2 4 = false) :
    s.setAnnul.complete = .next (s.setAnnul.skipDelaySlot (s.wordAt s.npc2)).advance := by
  have hsel : s.setAnnul.fixedUp.selectTrap = none := s.setAnnul.selectTrap_fixedUp.trans (s.quiet_iff.1 hq).2
  rw [State.complete_fixedUp (s := s.setAnnul) (.inr hf), State.arbitrate_none hsel]
  rfl

/-- Scheduling a target and annulling skips the delay slot; an untaken branch that annuls is the case of the target npc2 has already. -/
theorem givesSkip_setNpc2_setAnnul {s : State} {target : Word} (hq : s.quiet = true) (hf : s.portFaults .fetch target 4 = false) :
    GivesSkip (s.setNpc2 target).setAnnul.complete s target := by
  have hq' : (s.setNpc2 target).quiet = true := (State.quiet_congr rfl rfl rfl rfl rfl).trans hq
  have hnpc2 : target + 4 + 4 = target + 8 := BitVec.add_assoc target 4 4
  exact ⟨_, State.complete_setAnnul hq' hf, rfl, rfl, hnpc2, rfl, rfl, rfl, rfl, rfl, rfl, rfl,
    State.readCell_congr rfl rfl, ⟨rfl, rfl, rfl, rfl⟩, sameBytes_of_mem rfl⟩

end Sys2Proof.Machine

open Sys2Proof.Machine

/-- Settles O36: a taken branch moves to its target, an untaken one does nothing or skips to the npc2 it found. -/
theorem conditionalBranch : Obligations.ConditionalBranch := by
  intro s c a disp22 hq hba
  refine ⟨fun hc => ?taken, ?untaken, ?annulled⟩
  case taken =>
    rw [exec_decodeBicc_taken hc hba]
    exact givesMove_setNpc2 hq _
  case untaken =>
    rintro hc rfl
    rw [exec_decodeBicc_untaken_noAnnul hc]
    exact givesMove_self hq
  case annulled =>
    rintro hc rfl hf
    rw [exec_decodeBicc_untaken hc]
    exact givesSkip_setNpc2_setAnnul hq hf

/-- Settles O37: the setting and the annul bit decide whether the target follows the delay slot or takes its place. -/
theorem branchAlways : Obligations.BranchAlways := by
  rintro s a disp22 t hq rfl
  refine ⟨fun h => ?delayed, ?annulled⟩
  case delayed =>
    rw [exec_ba_delayed h]
    exact givesMove_setNpc2 hq _
  case annulled =>
    rintro hv8 rfl hf
    rw [exec_ba_annul hv8, branchOffset_eq]
    exact givesSkip_setNpc2_setAnnul hq hf

end


section
/-! The Ticc (46_ticc.md R290 to R306): the number a Ticc traps with, then what each of the two values of its condition executes. -/

namespace Sys2Proof.Machine

/-! ### The trap number -/

/-- The trap number is the operand sum modulo 128; the carry out of the 32 bits of the sum does not reach it. -/
theorem State.trapNumber_eq_mod (s : State) (rs1 : Reg) (src : Operand2) :
    s.trapNumber rs1 src = BitVec.ofNat 7 (((s.reg rs1).toNat + (s.operand2 src).toNat) % 128) := by
  apply BitVec.eq_of_toNat_eq
  simp only [State.trapNumber, State.sum, BitVec.extractLsb'_toNat, BitVec.toNat_add, BitVec.toNat_ofNat, Nat.shiftRight_zero]
  omega

/-- The trap types of the software traps are the upper half of the table. -/
theorem Trap.tt_trapInstruction_toNat (n : BitVec 7) : (Trap.tt (.trapInstruction n)).toNat = 128 + n.toNat :=
  (BitVec.toNat_append 1#1 n).trans (Nat.two_pow_add_eq_or_of_lt n.isLt 1).symm

/-! ### The instructions' meanings -/

/-- The sixteen Ticc share one meaning, that of their condition. -/
theorem exec_decodeTicc (res : Bool) (rs1 : Reg) (src : Operand2) (c : Cond) (s : State) :
    exec (decodeTicc res rs1 src c) s = ticc c rs1 src s := by
  cases c <;> rfl

section
variable {s : State} {c : Cond} (res : Bool) (rs1 : Reg) (src : Operand2)

/-- A Ticc whose condition is true raises its software trap and does nothing else. -/
theorem exec_decodeTicc_taken (hc : condHolds c s.psr.icc = true) :
    exec (decodeTicc res rs1 src c) s = (s.raise (.trapInstruction (s.trapNumber rs1 src))).complete :=
  (exec_decodeTicc ..).trans (if_pos hc)

/-- A Ticc whose condition is false has no effect. -/
theorem exec_decodeTicc_untaken (hc : condHolds c s.psr.icc = false) : exec (decodeTicc res rs1 src c) s = s.complete :=
  (exec_decodeTicc ..).trans (if_neg (by simp [hc]))
end

end Sys2Proof.Machine

open Sys2Proof.Machine

/-- Settles O38: a true condition raises the software trap, whose entry and whose error mode are those of any raised trap; a false one only advances. -/
theorem trapOnCondition : Obligations.TrapOnCondition := by
  intro s c res rs1 src n hn
  rw [← State.trapNumber_eq_mod] at hn
  subst hn
  refine ⟨Trap.tt_trapInstruction_toNat _, fun hc => ?raises, fun hc henter => ?enters, fun hc hsel het => ?error,
    fun hc hq => ?untaken, rfl, rfl⟩
  case raises => exact exec_decodeTicc_taken res rs1 src hc
  case enters =>
    rw [exec_decodeTicc_taken res rs1 src hc]
    exact entersTrap_of nofun henter
  case error =>
    rw [exec_decodeTicc_taken res rs1 src hc]
    exact entersError_of rfl hsel het
  case untaken =>
    rw [exec_decodeTicc_untaken res rs1 src hc]
    exact givesMove_self hq

end

section
/-! SAVE and RESTORE, each alone (47_window.md R320, R321): a window WIM marks raises the trap, another is moved to with the old window's sum written there. -/

namespace Sys2Proof.Machine

theorem State.sized_setCwp {s : State} (hs : s.sized = true) {w : BitVec 5} (hw : w.toNat < s.cfg.nwin) : (s.setCwp w).sized = true := by
  obtain ⟨hn, hg, hwin, -⟩ := s.sized_iff.1 hs
  exact (s.setCwp w).sized_iff.2 ⟨hn, hg, hwin, hw⟩

section
variable {s : State} (rd rs1 : Reg) (src : Operand2)

theorem exec_save : exec (.save rd rs1 src) s = execSave rd rs1 src s := rfl

theorem exec_restore : exec (.restore rd rs1 src) s = execRestore rd rs1 src s := rfl

theorem raises_save (hw : s.windowInvalid (prevWindow s.cfg.nwin s.psr.cwp) = true) :
    Raises (exec (.save rd rs1 src) s) s .windowOverflow := if_pos hw

theorem raises_restore (hw : s.windowInvalid (nextWindow s.cfg.nwin s.psr.cwp) = true) :
    Raises (exec (.restore rd rs1 src) s) s .windowUnderflow := if_pos hw
end

/-- Moving a quiet state to a window of the ring changes CWP, rd of that window and the triple, and nothing else. -/
theorem givesWindow_movedTo {s : State} (hs : s.sized = true) (hq : s.quiet = true) {w : BitVec 5} (hw : w.toNat < s.cfg.nwin)
    (rd : Reg) (v : Word) : GivesWindow (.next (s.movedTo w rd v)) s w.toNat rd v := by
  have hk : Keeps s ((s.setCwp w).setReg rd v) := by constructor <;> simp
  obtain ⟨-, hp⟩ := proceeds_of hk (hk.quiet hq) (target := s.npc2) (by simp)
  have hwr : Writes s ((s.setCwp w).setReg rd v) rd v :=
    writes_setReg (s := s) (State.sized_setCwp hs hw) rfl rfl rd v
  refine ⟨_, rfl, hp, ?cwp, ?psr, hwr.advance, sameBytes_of_mem ?mem, ?wim, ?tbr, ?y⟩
  all_goals simp [State.movedTo]

end Sys2Proof.Machine

open Sys2Proof.Machine

/-- Settles O39: WIM's bit for the window moved to decides between the trap and the move. -/
theorem saveAndRestore : Obligations.SaveAndRestore := by
  rintro s rd rs1 src v p n hs rfl rfl rfl
  obtain ⟨⟨h2, h32⟩, -⟩ := s.sized_iff.1 hs
  rw [← prevWindow_toNat h2 h32, ← nextWindow_toNat h2 h32]
  refine ⟨fun hw => ?overflow, fun hw => ?underflow, fun hw hq => ?saved, fun hw hq => ?restored⟩
  case overflow => exact raises_save rd rs1 src hw
  case underflow => exact raises_restore rd rs1 src hw
  case saved =>
    rw [exec_save, execSave_quiet hq hw]
    exact givesWindow_movedTo hs hq (prevWindow_lt h2 h32 _) rd _
  case restored =>
    rw [exec_restore, execRestore_quiet hq hw]
    exact givesWindow_movedTo hs hq (nextWindow_lt h2 h32 _) rd _

end

section
/-! The table of traps and the arbitration's scan of it (60_exceptions.md R441, R450 to R462). The scan's list is in the order `Trap.Precedes` and holds every accepted trap, so that the first hit is the pending trap that precedes all others. -/

namespace Sys2Proof.Machine

/-! ### The scan -/

/-- In a list ordered by an asymmetric relation, what `find?` answers is the hit that comes before every other. -/
theorem find?_eq_some_iff_of_pairwise {α : Type} {R : α → α → Prop} (hR : ∀ a b, R a b → ¬R b a) (p : α → Bool) {l : List α}
    (hl : l.Pairwise R) (t : α) :
    l.find? p = some t ↔ (t ∈ l ∧ p t = true) ∧ ∀ u ∈ l, p u = true → u ≠ t → R t u := by
  induction l with
  | nil => simp
  | cons x xs ih =>
    obtain ⟨hx, hxs⟩ := List.pairwise_cons.1 hl
    by_cases hp : p x = true
    case pos =>
      rw [List.find?_cons_of_pos hp, Option.some.injEq]
      refine ⟨?_, fun ⟨⟨hmem, _⟩, hfirst⟩ => ?_⟩
      · rintro rfl
        exact ⟨⟨List.mem_cons_self, hp⟩, fun u hu _ hne => hx u ((List.mem_cons.1 hu).resolve_left hne)⟩
      · by_contra hne
        have hmem' := (List.mem_cons.1 hmem).resolve_left (Ne.symm hne)
        exact hR x t (hx t hmem') (hfirst x List.mem_cons_self hp hne)
    case neg =>
      have hmem : ∀ u, p u = true → (u ∈ x :: xs ↔ u ∈ xs) := fun u hu =>
        List.mem_cons.trans (or_iff_right fun he => hp (he ▸ hu))
      rw [List.find?_cons_of_neg hp, ih hxs, and_congr_left fun hu => hmem t hu]
      exact and_congr_right' (forall_congr' fun u => ⟨fun h hu hpu => h ((hmem u hpu).1 hu) hpu, fun h hu hpu => h ((hmem u hpu).2 hu) hpu⟩)

/-- The order of the table: the smaller priority number first, ties by the smaller trap type (60_exceptions.md R450, R460). -/
abbrev Trap.Precedes (t u : Trap) : Prop :=
  Trap.priority t < Trap.priority u ∨ (Trap.priority t = Trap.priority u ∧ (Trap.tt t).toNat < (Trap.tt u).toNat)

theorem Trap.Precedes.asymm (t u : Trap) (h : Trap.Precedes t u) : ¬Trap.Precedes u t := by
  unfold Trap.Precedes at *
  omega

/-- The trap types of the interrupts are those from 0x10 on. -/
theorem Trap.tt_interruptLevel_toNat (level : BitVec 4) : (Trap.tt (.interruptLevel level)).toNat = 0x10 + level.toNat :=
  toNat_append_add 0x1#4 level

theorem mem_softwareOrder (n : BitVec 7) : Trap.trapInstruction n ∈ softwareOrder :=
  List.mem_map.2 ⟨n.toNat, List.mem_range.2 n.isLt, by rw [BitVec.ofNat_toNat, BitVec.setWidth_eq]⟩

theorem softwareOrder_pairwise : softwareOrder.Pairwise Trap.Precedes := by
  refine List.pairwise_map.2 (List.pairwise_lt_range.imp_of_mem fun {a b} ha hb hlt => .inr ⟨rfl, ?_⟩)
  rw [Trap.tt_trapInstruction_toNat, Trap.tt_trapInstruction_toNat, BitVec.toNat_ofNat, BitVec.toNat_ofNat]
  have := List.mem_range.1 ha
  have := List.mem_range.1 hb
  omega

theorem priority_of_mem_softwareOrder {t : Trap} (h : t ∈ softwareOrder) : Trap.priority t = 16 := by
  obtain ⟨n, -, rfl⟩ := List.mem_map.1 h
  rfl

theorem scanOrder_pairwise : scanOrder.Pairwise Trap.Precedes := by
  have hexception : ∀ t ∈ exceptionOrder, Trap.priority t < 16 := by decide
  have hinterrupt : ∀ t ∈ interruptOrder, 16 < Trap.priority t := by decide
  refine List.pairwise_append.2 ⟨List.pairwise_append.2 ⟨by decide, softwareOrder_pairwise, fun t ht u hu => .inl ?_⟩, by decide,
    fun t ht u hu => .inl ?_⟩
  · rw [priority_of_mem_softwareOrder hu]
    exact hexception t ht
  · refine lt_of_le_of_lt ?_ (hinterrupt u hu)
    rcases List.mem_append.1 ht with ht | ht
    · exact (hexception t ht).le
    · exact (priority_of_mem_softwareOrder ht).le

theorem Trap.accepted_iff (cfg : Config) (t : Trap) :
    Trap.accepted cfg t = true ↔ t ≠ .interruptLevel 0 ∧ (t = .tagOverflow → cfg.implUnlisted = .v8) := by
  cases t <;> simp [Trap.accepted]

/-- The scan looks at every trap that can be pending. -/
theorem mem_scanOrder {cfg : Config} {t : Trap} (h : Trap.accepted cfg t = true) : t ∈ scanOrder := by
  cases t with
  | interruptLevel level =>
    have hmem : ∀ level : BitVec 4, level ≠ 0 → Trap.interruptLevel level ∈ interruptOrder := by decide
    exact List.mem_append_right _ (hmem level fun h0 => ((Trap.accepted_iff ..).1 h).1 (congrArg _ h0))
  | trapInstruction n => exact List.mem_append_left _ (List.mem_append_right _ (mem_softwareOrder n))
  | _ => exact List.mem_append_left _ (List.mem_append_left _ (by decide))

/-- The traps the arbitration chooses from (60_exceptions.md R460). -/
def State.Candidate (s : State) (t : Trap) : Prop :=
  Trap.accepted s.cfg t = true ∧ s.isPending t = true ∧ s.eligible t = true

theorem State.candidate_iff (s : State) (t : Trap) :
    (Trap.accepted s.cfg t && s.isPending t && s.eligible t) = true ↔ s.Candidate t := by
  rw [Bool.and_eq_true, Bool.and_eq_true, and_assoc, State.Candidate]

theorem State.selectTrap_eq_some_iff (s : State) (t : Trap) :
    s.selectTrap = some t ↔ s.Candidate t ∧ ∀ u, s.Candidate u → u ≠ t → Trap.Precedes t u := by
  simp only [State.selectTrap, find?_eq_some_iff_of_pairwise Trap.Precedes.asymm _ scanOrder_pairwise, State.candidate_iff]
  exact and_congr ⟨fun h => h.2, fun h => ⟨mem_scanOrder h.1, h⟩⟩
    (forall_congr' fun u => ⟨fun h hu => h (mem_scanOrder hu.1) hu, fun h _ hu => h hu⟩)

theorem State.selectTrap_eq_none_iff (s : State) : s.selectTrap = none ↔ ∀ u, ¬s.Candidate u := by
  simp only [State.selectTrap, List.find?_eq_none, State.candidate_iff]
  exact forall_congr' fun u => ⟨fun h hu => h (mem_scanOrder hu.1) hu, fun h _ => h⟩

theorem State.eligible_interruptLevel (s : State) (level : BitVec 4) : s.eligible (.interruptLevel level) =
    (decide (s.cfg.irqGating = .doc) || (s.psr.et && decide (level.toNat = 15 ∨ s.psr.pil.toNat < level.toNat))) := by
  have h15 : (level == 15#4) = decide (level.toNat = 15) := by
    rw [beq_eq_decide, decide_eq_decide, ← BitVec.toNat_inj]
    rfl
  cases hg : s.cfg.irqGating <;> simp [State.eligible, hg, h15]

theorem State.eligible_of_not_isInterrupt (s : State) {t : Trap} (h : Trap.isInterrupt t = false) : s.eligible t = true := by
  cases t with
  | interruptLevel level => cases h
  | _ => rfl

/-! ### The host's ids -/

/-- The id table answers only the trap of the id. -/
theorem Trap.tt_of_ofTt {tt : BitVec 8} {t : Trap} (h : Trap.ofTt tt = some t) : Trap.tt t = tt := by
  have hall : ∀ tt : BitVec 8, (Trap.ofTt tt).all (fun t => Trap.tt t == tt) = true := by decide
  simpa [h] using hall tt

/-- The ids of 60_exceptions.md R450, and tag_overflow's with IMPL_UNLISTED = v8. -/
theorem exists_accepted_iff (cfg : Config) (tt : BitVec 8) : (∃ t, Trap.tt t = tt ∧ Trap.accepted cfg t = true) ↔
    tt.toNat ∈ [0, 1, 2, 3, 5, 6, 7, 9, 0x2A] ∨ (0x11 ≤ tt.toNat ∧ tt.toNat ≤ 0x1F) ∨ 0x80 ≤ tt.toNat ∨
      (tt.toNat = 0x0A ∧ cfg.implUnlisted = .v8) := by
  simp only [Trap.accepted_iff]
  constructor
  · rintro ⟨t, rfl, hlevel, htag⟩
    cases t with
    | interruptLevel level =>
      have hpos : level.toNat ≠ 0 := fun h0 => hlevel (congrArg _ (BitVec.eq_of_toNat_eq h0))
      rw [Trap.tt_interruptLevel_toNat]
      omega
    | trapInstruction n => exact .inr (.inr (.inl (by rw [Trap.tt_trapInstruction_toNat]; omega)))
    | tagOverflow => exact .inr (.inr (.inr ⟨rfl, htag rfl⟩))
    | _ => exact .inl (by decide)
  · rintro (h | h | h | h)
    · have hnamed : ∀ k ∈ [0, 1, 2, 3, 5, 6, 7, 9, 0x2A], ∃ t ∈ exceptionOrder,
          (Trap.tt t).toNat = k ∧ t ≠ .interruptLevel 0 ∧ t ≠ .tagOverflow := by decide
      obtain ⟨t, -, htt, hlevel, htag⟩ := hnamed _ h
      exact ⟨t, BitVec.eq_of_toNat_eq htt, hlevel, fun he => absurd he htag⟩
    · have hlevel : (BitVec.ofNat 4 (tt.toNat - 0x10)).toNat = tt.toNat - 0x10 := by rw [BitVec.toNat_ofNat]; omega
      refine ⟨.interruptLevel (BitVec.ofNat 4 (tt.toNat - 0x10)), BitVec.eq_of_toNat_eq ?_, fun he => ?_, nofun⟩
      · rw [Trap.tt_interruptLevel_toNat, hlevel]
        omega
      · rw [Trap.interruptLevel.inj he] at hlevel
        change 0 = _ at hlevel
        omega
    · refine ⟨.trapInstruction (BitVec.ofNat 7 (tt.toNat - 0x80)), BitVec.eq_of_toNat_eq ?_, nofun, nofun⟩
      rw [Trap.tt_trapInstruction_toNat, BitVec.toNat_ofNat]
      omega
    · exact ⟨.tagOverflow, BitVec.eq_of_toNat_eq h.1.symm, nofun, fun _ => h.2⟩

theorem callRaise_accepted {s : State} (hst : s.stage = .boundary) {t : Trap} (ha : Trap.accepted s.cfg t = true) :
    callRaise (Trap.tt t) s = .next (s.raise t) := by
  simp only [callRaise, hst, Trap.ofTt_tt, ha, reduceCtorEq, or_self, if_false, if_true]

theorem callRaise_not_accepted {s : State} (hst : s.stage = .boundary) {tt : BitVec 8}
    (h : ¬∃ t, Trap.tt t = tt ∧ Trap.accepted s.cfg t = true) : callRaise tt s = .refused (.idNotAccepted tt) := by
  simp only [callRaise, hst, reduceCtorEq, or_self, if_false]
  split
  next t ht => exact if_neg fun ha => h ⟨t, Trap.tt_of_ofTt ht, ha⟩
  next => rfl

end Sys2Proof.Machine

open Sys2Proof.Machine

/-- Settles O54: the table's rows, then the first hit of the scan, whose list is in the table's order and complete. -/
theorem trapSelection : Obligations.TrapSelection := by
  refine ⟨by decide, fun n => ⟨Trap.tt_trapInstruction_toNat n, rfl⟩, fun level => ⟨Trap.tt_interruptLevel_toNat level, rfl⟩,
    Trap.accepted_iff, fun s => ⟨fun t => ?select, ?none, s.eligible_interruptLevel, fun _ => s.eligible_of_not_isInterrupt⟩⟩
  case select =>
    rw [State.selectTrap_eq_some_iff]
    simp only [State.Candidate, and_imp]
  case none =>
    rw [State.selectTrap_eq_none_iff]
    simp only [State.Candidate, not_and, Bool.not_eq_true]

/-- Settles O60: an id is accepted exactly when it is an accepted trap's type, and those are the table's. -/
theorem raiseAcceptsTheTable : Obligations.RaiseAcceptsTheTable := by
  intro s tt hst
  split
  next h =>
    obtain ⟨t, rfl, ha⟩ := (exists_accepted_iff s.cfg tt).2 h
    exact callRaise_accepted hst ha
  next h => exact callRaise_not_accepted hst (mt (exists_accepted_iff s.cfg tt).1 h)

end

section
/-! Stages 4 to 6 and the host's calls, forwards (50_pipeline_controller.md R400 to R407; 60_exceptions.md R466 to R470; 70_reset_and_hazards.md R500 to R506): the entry of the trap the arbitration selects, error mode, the reset trap, boot, and the step as the execution of the staged word. -/

namespace Sys2Proof.Machine

/-! ### Trap entry, error mode and the reset trap -/

theorem State.fixedUp_of_not_annul {e : State} (ha : e.annul = false) : e.fixedUp = e := if_neg (by simp [ha])

theorem State.fixedUp_of_annul {e : State} (ha : e.annul = true) : e.fixedUp = e.skipDelaySlot (e.wordAt e.npc2) := if_pos ha

theorem State.sized_fixedUp (e : State) : e.fixedUp.sized = e.sized := by
  obtain ⟨hcfg, hglobals, hwindows, -, hpsr, -⟩ := e.fixedUp_frame
  exact State.sized_congr hcfg (congrArg _ hglobals) (congrArg _ hwindows) (congrArg _ hpsr)

/-- The selected trap is entered from the state after the fix-up (50_pipeline_controller.md R403, R404; 60_exceptions.md R466). -/
theorem entersTrap_complete {e : State} {t : Trap} (hs : e.sized = true) (hsel : e.selectTrap = some t) (hr : t ≠ .reset)
    (hc : Trap.isInterrupt t = true ∨ e.psr.et = true) (hf : e.portFaults .fetch (trapVector e.tbr.tba t) 4 = false)
    (ha : e.annul = false ∨ e.portFaults .fetch e.npc2 4 = false) : EntersTrap e.complete e.fixedUp t := by
  obtain ⟨hcfg, -, -, -, hpsr, -, htbr, -, -, -, -, -, hannul⟩ := e.fixedUp_frame
  rw [State.complete_fixedUp ha]
  refine entersTrap_arbitrate (e.sized_fixedUp.trans hs) hannul (e.selectTrap_fixedUp.trans hsel) hr (by rwa [hpsr]) ?_
  rw [State.portFaults_congr hcfg, htbr]
  exact hf

/-- `entersTrap_complete`, the two states it starts from written out. -/
theorem entersTrap_complete_cases {e : State} {t : Trap} (hs : e.sized = true) (hsel : e.selectTrap = some t) (hr : t ≠ .reset)
    (hc : Trap.isInterrupt t = true ∨ e.psr.et = true) (hf : e.portFaults .fetch (trapVector e.tbr.tba t) 4 = false) :
    (e.annul = false → EntersTrap e.complete e t) ∧
    (e.annul = true → e.portFaults .fetch e.npc2 4 = false → EntersTrap e.complete (e.skipDelaySlot (e.wordAt e.npc2)) t) := by
  refine ⟨fun ha => ?_, fun ha hrefetch => ?_⟩
  · have h := entersTrap_complete hs hsel hr hc hf (.inl ha)
    rwa [State.fixedUp_of_not_annul ha] at h
  · have h := entersTrap_complete hs hsel hr hc hf (.inr hrefetch)
    rwa [State.fixedUp_of_annul ha] at h

theorem State.complete_errorMode {e : State} {t : Trap} (ha : e.annul = false) (hsel : e.selectTrap = some t) (hr : t ≠ .reset)
    (hi : Trap.isInterrupt t = false) (het : e.psr.et = false) : e.complete = .next e.errorMode := by
  rw [State.complete_fixedUp (.inl ha), State.fixedUp_of_not_annul ha, State.arbitrate_trap hsel hr, hi, het]
  rfl

theorem State.bootAt_answered {s : State} {a : Word} (hf : s.portFaults .fetch a 4 = false) :
    s.bootAt a = .next (s.booted a (s.wordAt a)) :=
  State.thenPort_access_ok _ _ hf

theorem State.complete_reset {e : State} (hsel : e.selectTrap = some .reset) (hf : e.portFaults .fetch e.bootEntry 4 = false)
    (ha : e.annul = false ∨ e.portFaults .fetch e.npc2 4 = false) :
    e.complete = .next (e.fixedUp.booted e.bootEntry (e.fixedUp.wordAt e.bootEntry)) := by
  obtain ⟨hcfg, -, -, -, -, -, -, -, -, -, hboot, -⟩ := e.fixedUp_frame
  rw [State.complete_fixedUp ha, State.arbitrate_reset (e.selectTrap_fixedUp.trans hsel), hboot]
  exact State.bootAt_answered ((State.portFaults_congr hcfg ..).trans hf)

/-! ### The host's calls -/

theorem State.whenRunning_error {s : State} (h : s.status = .error) (wanted : Stage) (k : Result) : s.whenRunning wanted k = .next s := by
  simp only [State.whenRunning, h]

theorem callBoot_aligned {s : State} {e : Word} (he : e.toNat % 4 = 0) : callBoot e s = s.bootAt e :=
  if_pos (by rw [aligned4_iff, decide_eq_true he])

theorem callBoot_misaligned {s : State} {e : Word} (he : e.toNat % 4 ≠ 0) : callBoot e s = .refused (.bootMisaligned e) :=
  if_neg (by rw [aligned4_iff, decide_eq_false he]; decide)

/-- The state the execute stage starts from: slot 1 holds the word at npc and the latch the decoding of slot 0 (50_pipeline_controller.md R401, R402). -/
def State.staged (s : State) : State :=
  { s with slot1 := s.wordAt s.npc, dec := decode s.cfg.implUnlisted s.slot0, stage := .decoded }

/-- A step at a boundary whose fetch is answered is the execution of the staged word (50_pipeline_controller.md R400 to R402, R406). -/
theorem step_normal {s : State} (hn : s.status = .normal) (hst : s.stage = .boundary) (hf : s.portFaults .fetch s.npc 4 = false) :
    step s = execDecoded (decode s.cfg.implUnlisted s.slot0) s.staged := by
  have hfetch : callFetch s = .next { s with slot1 := s.wordAt s.npc, stage := .fetched } := by
    rw [callFetch, State.whenRunning_normal hn hst (by decide)]
    exact State.thenPort_access_ok _ _ hf
  have hdecode : callDecode { s with slot1 := s.wordAt s.npc, stage := .fetched } = .next s.staged :=
    State.whenRunning_normal (s := { s with slot1 := s.wordAt s.npc, stage := .fetched }) hn rfl nofun _
  rw [step, callStep, hfetch, andThen, hdecode, andThen]
  exact State.whenRunning_normal (s := s.staged) hn rfl nofun _

/-- The four bytes at an address decode as the word there (30_encoding.md R90). -/
theorem decodeBytes_at (u : Unlisted) (s : State) (a : Word) :
    decodeBytes u [s.byteAt a, s.byteAt (a + 1), s.byteAt (a + 2), s.byteAt (a + 3)] = (decode u (s.wordAt a), []) := rfl

/-! ### An interrupt after the effect of its step's instruction -/

/-- Under IRQ_GATING = doc the arbitration does not look at PSR (60_exceptions.md R462). -/
theorem State.selectTrap_congr_doc {s t : State} (hdoc : s.cfg.irqGating = .doc) (hc : t.cfg = s.cfg) (hp : t.pending = s.pending) :
    t.selectTrap = s.selectTrap := by
  have heligible : ∀ u, t.eligible u = s.eligible u := fun u => by cases u <;> simp [State.eligible, hc, hdoc]
  simp only [State.selectTrap, State.isPending, hc, hp, heligible]

/-- Only RETT and WRPSR change what the arbitration sees, by ET and PIL (60_exceptions.md R462). -/
theorem Effect.selectTrap {i : Instr} {s e : State} (he : Effect (rightsOf i) s e)
    (h : s.cfg.irqGating = .doc ∨ (i.writesPsr = false ∧ ∀ rd rs1 src, i ≠ .rett rd rs1 src)) : e.selectTrap = s.selectTrap := by
  rcases h with hdoc | ⟨hpsr, hrett⟩
  · exact State.selectTrap_congr_doc hdoc he.cfg he.pending
  · have hmode : (rightsOf i).mode = false := Bool.eq_false_iff.2 fun hm => by
      rcases rightsOf_mode hm with hw | ⟨rd, rs1, src, hi⟩
      · exact absurd (hpsr.symm.trans hw) (by decide)
      · exact hrett rd rs1 src hi
    exact State.selectTrap_congr he.cfg he.pending (he.mode hmode).2 (he.pil hpsr)

theorem sameSpecials_setReg (s : State) (rd : Reg) (v : Word) : SameSpecials s (s.setReg rd v) := by constructor <;> simp

/-- The selected trap is entered from the state with rd written. -/
theorem entersTrap_finish {s : State} {t : Trap} (hs : s.sized = true) (ha : s.annul = false) (hsel : s.selectTrap = some t) (hr : t ≠ .reset)
    (hc : Trap.isInterrupt t = true ∨ s.psr.et = true) (hf : s.portFaults .fetch (trapVector s.tbr.tba t) 4 = false) (rd : Reg) (v : Word) :
    EntersTrap (s.finish rd v) (s.setReg rd v) t := by
  have hk := keeps_setReg s rd v
  refine (entersTrap_complete_cases ((s.sized_setReg rd v).trans hs) ?_ hr ?_ ?_).1 (hk.annul.trans ha)
  · rw [State.selectTrap_congr hk.cfg hk.pending hk.et hk.pil, hsel]
  · rwa [hk.et]
  · rw [State.portFaults_congr hk.cfg, State.setReg_tbr]
    exact hf

end Sys2Proof.Machine

open Sys2Proof Sys2Proof.Machine

/-- Settles O55: the arbitration's entry, without the fix-up and after it. -/
theorem trapEntrySequence : Obligations.TrapEntrySequence :=
  fun _ _ hs hsel hr hc hf => entersTrap_complete_cases hs hsel hr hc hf

/-- Settles O56: the execute stage does the same whatever is pending (`exec_leads`), and stages 4 to 6 enter the interrupt from the state it left; ADD is one such instruction. -/
theorem interruptAfterAdd : Obligations.InterruptAfterAdd := by
  refine ⟨fun i s hs => ?every, fun s rd rs1 src level hs ha hsel hf => ?add⟩
  case every =>
    have hleads := exec_leads i s 0
    rw [State.withPending] at hleads
    generalize exec i s = k, exec i { s with pending := 0 } = k' at hleads ⊢
    cases hleads with
    | fault kind a n => exact .inl ⟨kind, a, n, rfl, rfl⟩
    | trap t hsync hacc => exact .inr (.inl ⟨t, hsync, rfl, rfl⟩)
    | done e he =>
      exact .inr (.inr ⟨e, rfl, rfl, he.pending, he.status, he.cfg, he.pc, he.npc, he.selectTrap,
        fun level hsel hf => entersTrap_complete_cases (he.sized hs) hsel nofun (.inl rfl) hf⟩)
  case add =>
    obtain ⟨u, hu, hentered⟩ := entersTrap_finish hs ha hsel nofun (.inl rfl) hf rd (s.reg rs1 + s.operand2 src)
    have hk := keeps_setReg s rd (s.reg rs1 + s.operand2 src)
    exact ⟨_, u, hu, writes_setReg hs rfl rfl rd _, sameSpecials_setReg s rd _, sameBytes_of_mem (s.setReg_mem rd _), hk.pc, hk.npc,
      hk.pending, hk.cfg, hentered⟩

/-- Settles O57: a selected trap that is no interrupt, with ET = 0, changes the status; each call begins with the test of the status. -/
theorem errorMode : Obligations.ErrorMode := by
  refine ⟨fun s t ht hsel het => entersError_of ht hsel het, fun s t ha hsel hr hi het => State.complete_errorMode ha hsel hr hi het,
    fun s h => ?_⟩
  have hfetch : callFetch s = .next s := State.whenRunning_error h _ _
  have hdecode : callDecode s = .next s := State.whenRunning_error h _ _
  have hexec : callExec s = .next s := State.whenRunning_error h _ _
  refine ⟨?_, hfetch, hdecode, hexec⟩
  rw [step, callStep, hfetch, andThen, hdecode, andThen, hexec]

/-- Settles O58: the reset trap is boot at the latched entry, without the fix-up and after it. -/
theorem resetTrap : Obligations.ResetTrap := by
  intro e hsel hf
  refine ⟨fun ha => ?_, fun ha hrefetch => ?_⟩
  · rw [State.complete_reset hsel hf (.inl ha), State.fixedUp_of_not_annul ha, State.booted, ha]
  · rw [State.complete_reset hsel hf (.inr hrefetch), State.fixedUp_of_annul ha]
    rfl

/-- Settles O59: the alignment of the address decides between the boot and the refusal; the step's first test is that of a boot. -/
theorem bootResult : Obligations.BootResult := by
  refine ⟨fun s e he hf => ?_, fun s e he => callBoot_misaligned he, fun cfg => rfl⟩
  rw [callBoot_aligned he]
  exact State.bootAt_answered hf

/-- Settles O6: `step_normal`, for what slot 0 decodes to. -/
theorem stepRunsDecodedInstruction : Obligations.StepRunsDecodedInstruction := by
  intro s hn hst hf
  have hinstr : ∀ i, decode s.cfg.implUnlisted s.slot0 = .instr i →
      step s = exec i { s with slot1 := s.wordAt s.npc, dec := .instr i, stage := .decoded } := by
    intro i hi
    rw [step_normal hn hst hf, State.staged, hi, execDecoded]
  refine ⟨hinstr, fun c hc => ?invalid, fun hslot i hbytes => ?bytes⟩
  case invalid =>
    rw [step_normal hn hst hf, State.staged, hc]
    exact execDecoded_invalid_raises c _
  case bytes =>
    rw [decodeBytes_at, ← hslot] at hbytes
    exact hinstr i (congrArg Prod.fst hbytes)

end

section
/-! The special-register instructions (48_special_regs.md R330 to R346): the privilege check of their supervisor forms, then what a read and a write leave. -/

namespace Sys2Proof.Machine

/-! ### The privilege check -/

theorem State.privileged_supervisor {s : State} (hS : s.psr.s = true) (k : Result) : s.privileged k = k := if_pos hS

/-- In user mode a supervisor-only effect is its privilege trap (60_exceptions.md R443). -/
theorem raises_privileged {s : State} (hu : s.psr.s = false) (k : Result) : Raises (s.privileged k) s .privilegedInstruction :=
  if_neg (by simp [hu])

/-- What a register number without a register behind it raises (48_special_regs.md R332, R342). -/
theorem raises_privileged_illegalInstruction (s : State) : Raises (s.privileged (s.trap .illegalInstruction)) s
    (if s.psr.s then .illegalInstruction else .privilegedInstruction) := by
  cases hS : s.psr.s with
  | true => exact State.privileged_supervisor hS _
  | false => exact raises_privileged hS _

/-- With IMPL_UNLISTED = illegal STBAR's row does what its words decode to (49_unlisted_v8.md R366). -/
theorem exec_stbar_illegal {s : State} (h : s.cfg.implUnlisted = .illegal) (low : BitVec 13) :
    exec (.stbar low) s = exec (.rdasr 0 15 (0#1 ++ low)) s := by
  change execStbar low s = _
  rw [execStbar, h]
  rfl

/-! ### Reads -/

theorem givesReg_privileged_finish {s : State} (hs : s.sized = true) (hq : s.quiet = true) (hS : s.psr.s = true) (rd : Reg) (v : Word) :
    GivesReg (s.privileged (s.finish rd v)) s rd v s.psr.icc s.y := by
  rw [State.privileged_supervisor hS]
  exact givesReg_finish hs hq rd v

/-! ### Writes -/

theorem givesSpecials_setY {s : State} (hq : s.quiet = true) (v : Word) :
    GivesSpecials (s.setY v).complete s s.npc2 s.psr s.wim s.tbr v :=
  givesSpecials_of (e := s.setY v) (by constructor <;> rfl) hq rfl rfl rfl rfl rfl

theorem givesSpecials_setWim {s : State} (hq : s.quiet = true) (v : Word) :
    GivesSpecials (s.setWim v).complete s s.npc2 s.psr (v &&& wimMask s.cfg.nwin) s.tbr s.y :=
  givesSpecials_of (e := s.setWim v) (by constructor <;> rfl) hq rfl rfl rfl rfl rfl

theorem givesSpecials_setTba {s : State} (hq : s.quiet = true) (v : Word) :
    GivesSpecials (s.setTba v).complete s s.npc2 s.psr s.wim { s.tbr with tba := v.extractLsb' 12 20 } s.y :=
  givesSpecials_of (e := s.setTba v) (by constructor <;> rfl) hq rfl rfl rfl rfl rfl

theorem givesSpecials_privileged {s : State} (hS : s.psr.s = true) {k : Result} {target : Word} {psr : Psr} {wim : Word} {tbr : Tbr}
    {y : Word} (h : GivesSpecials k s target psr wim tbr y) : GivesSpecials (s.privileged k) s target psr wim tbr y := by
  rwa [State.privileged_supervisor hS]

/-- The arbitration of a WRPSR's step uses the ET and PIL it wrote (48_special_regs.md R343). -/
theorem givesSpecials_setPsr {s : State} {p : Psr} (hq : s.quietWith p.et p.pil = true) :
    GivesSpecials (s.setPsr p).complete s s.npc2 p s.wim s.tbr s.y :=
  givesSpecials_of (e := s.setPsr p) (by constructor <;> rfl) ((State.quiet_congr rfl rfl rfl rfl rfl).trans hq) rfl rfl rfl rfl rfl

theorem psrOfWord_cwp_toNat (v : Word) : (psrOfWord v).cwp.toNat = v.toNat % 32 := by
  rw [psrOfWord, BitVec.extractLsb'_toNat, Nat.shiftRight_zero]

/-- WRPSR in supervisor mode: the CWP field is checked first (48_special_regs.md R343). -/
theorem exec_wrpsr {s : State} {rs1 : Reg} {src : Operand2} {v : Word} (hv : v = s.reg rs1 ^^^ s.operand2 src) (hS : s.psr.s = true)
    (rd : Reg) : exec (.wrpsr rd rs1 src) s =
      if s.cfg.nwin ≤ v.toNat % 32 then s.trap .illegalInstruction else (s.setPsr (psrOfWord v)).complete := by
  subst hv
  rw [← psrOfWord_cwp_toNat]
  exact State.privileged_supervisor hS _

end Sys2Proof.Machine

open Sys2Proof Sys2Proof.Machine

/-- Settles O42: each is one register write, of the register's word as the number R333 and R335 give. -/
theorem readSpecialRegisters : Obligations.ReadSpecialRegisters := by
  intro s rd rs1 low hs hq
  simp only [← State.psrWord_toNat, ← State.tbrWord_toNat, BitVec.ofNat_toNat, BitVec.setWidth_eq]
  exact ⟨givesReg_finish hs hq rd s.y, fun hS => ⟨givesReg_privileged_finish hs hq hS rd _, givesReg_privileged_finish hs hq hS rd _,
    givesReg_privileged_finish hs hq hS rd _⟩⟩

/-- Settles O43: one special register each. -/
theorem writeSpecialRegisters : Obligations.WriteSpecialRegisters := by
  rintro s rd rs1 src v hq rfl
  exact ⟨givesSpecials_setY hq _, fun hS => ⟨givesSpecials_privileged hS (givesSpecials_setWim hq _),
    givesSpecials_privileged hS (givesSpecials_setTba hq _)⟩⟩

/-- Settles O44: the privilege check, the check of the CWP field, then the write. -/
theorem writePsr : Obligations.WritePsr := by
  intro s rd rs1 src v hv
  refine ⟨fun hu => raises_privileged hu _, fun hS hcwp => ?illegal, fun hS hcwp hq => ?written⟩
  case illegal =>
    rw [exec_wrpsr hv hS, if_pos hcwp]
    rfl
  case written =>
    rw [exec_wrpsr hv hS, if_neg (not_le.2 hcwp)]
    exact givesSpecials_setPsr (p := psrOfWord v) hq

/-- Settles O46: all nine begin with the privilege check. -/
theorem userModeRaisesPrivileged : Obligations.UserModeRaisesPrivileged := by
  intro s rd rs1 src asr low hu
  exact ⟨raises_privileged hu _, raises_privileged hu _, raises_privileged hu _, raises_privileged hu _, raises_privileged hu _,
    raises_privileged hu _, raises_privileged hu _, raises_privileged hu _, raises_privileged hu _⟩

/-- Settles O47: all three raise what `raises_privileged_illegalInstruction` says, and a trap that can be entered is entered. -/
theorem ancillaryRegistersTrap : Obligations.AncillaryRegistersTrap := by
  rintro s rd rs1 asr src low t rfl henter
  have henters : EntersTrap (s.privileged (s.trap .illegalInstruction)) s (if s.psr.s then .illegalInstruction else .privilegedInstruction) := by
    rw [raises_privileged_illegalInstruction]
    exact entersTrap_of (by split <;> nofun) henter
  refine ⟨henters, henters, fun low13 hillegal => ?_⟩
  rw [exec_stbar_illegal hillegal]
  exact henters

end

section
/-! The rows the document never names (49_unlisted_v8.md). With IMPL_UNLISTED = v8, the carry forms and the tagged forms by their results and flags, and the atomic forms as a store followed by a register write; otherwise, and for the alternate-space, floating-point, coprocessor and UNIMP rows under both settings, Invalid. -/

namespace Sys2Proof.Machine

/-! ### The setting -/

theorem givesReg_unlisted {s : State} (h8 : s.cfg.implUnlisted = .v8) {k : Result} {rd : Reg} {v : Word} {icc : Icc} {y : Word}
    (h : GivesReg k s rd v icc y) : GivesReg (s.unlisted k) s rd v icc y := by
  rwa [State.unlisted_v8 h8]

theorem raises_unlisted {s : State} (h8 : s.cfg.implUnlisted = .v8) {k : Result} {t : Trap} (h : Raises k s t) :
    Raises (s.unlisted k) s t := by
  rwa [State.unlisted_v8 h8]

theorem exec_flush_v8 {s : State} (h8 : s.cfg.implUnlisted = .v8) (rd rs1 : Reg) (src : Operand2) :
    exec (.flush rd rs1 src) s = s.complete := State.unlisted_v8 h8 _

theorem exec_stbar_v8 {s : State} (h8 : s.cfg.implUnlisted = .v8) (low : BitVec 13) : exec (.stbar low) s = s.complete := by
  change execStbar low s = _
  rw [execStbar, h8]

/-! ### The carry forms (R361 to R364) -/

theorem addCarry_eq_ofNat (s : State) (a b : Word) : addCarry s a b = BitVec.ofNat 32 (a.toNat + b.toNat + s.psr.icc.c.toNat) := by
  rw [BitVec.ofNat_add, BitVec.ofNat_add, BitVec.ofNat_toNat, BitVec.ofNat_toNat, BitVec.setWidth_eq, BitVec.setWidth_eq, addCarry]

theorem subCarry_eq_ofInt (s : State) (a b : Word) :
    subCarry s a b = BitVec.ofInt 32 ((a.toNat : Int) - b.toNat - s.psr.icc.c.toNat) := by
  simp only [subCarry, Int.sub_eq_add_neg, BitVec.ofInt_add, BitVec.ofInt_neg, BitVec.ofInt_natCast, BitVec.ofNat_toNat,
    BitVec.setWidth_eq, BitVec.sub_eq_add_neg]

theorem iccAdd_eq_bits (a b : Word) (carry : Bool) (r : Word) : iccAdd a b carry r =
    { n := r.msb, z := decide (r = 0), v := (a.msb && b.msb && !r.msb) || (!a.msb && !b.msb && r.msb),
      c := decide (2 ^ 32 ≤ a.toNat + b.toNat + carry.toNat) } := by
  rw [← addOverflow_bits, ← flagZ_eq_decide]
  rfl

theorem iccSub_eq_bits (a b : Word) (borrow : Bool) (r : Word) : iccSub a b borrow r =
    { n := r.msb, z := decide (r = 0), v := (a.msb && !b.msb && !r.msb) || (!a.msb && b.msb && r.msb),
      c := decide (a.toNat < b.toNat + borrow.toNat) } := by
  rw [← subOverflow_bits, ← flagZ_eq_decide]
  rfl

/-! ### The tagged forms (R369 to R371) -/

theorem tagged_eq (a b : Word) : tagged a b = decide (a.toNat % 4 ≠ 0 ∨ b.toNat % 4 ≠ 0) := by
  have h (x : Word) : (x.extractLsb' 0 2 != 0) = decide (x.toNat % 4 ≠ 0) := by
    have := aligned4_iff x
    rw [aligned4] at this
    rw [bne, this, decide_not]
  rw [tagged, h, h, Bool.decide_or]

theorem iccTaggedAdd_eq (a b : Word) : iccTaggedAdd a b (a + b) =
    { n := (a + b).msb, z := decide (a + b = 0),
      v := decide (a.toInt + b.toInt < -2 ^ 31 ∨ 2 ^ 31 ≤ a.toInt + b.toInt) || decide (a.toNat % 4 ≠ 0 ∨ b.toNat % 4 ≠ 0),
      c := decide (2 ^ 32 ≤ a.toNat + b.toNat) } := by
  rw [← addOverflow_signedRange, ← tagged_eq, ← flagZ_eq_decide]
  rfl

theorem iccTaggedSub_eq (a b : Word) : iccTaggedSub a b (a - b) =
    { n := (a - b).msb, z := decide (a - b = 0),
      v := decide (a.toInt - b.toInt < -2 ^ 31 ∨ 2 ^ 31 ≤ a.toInt - b.toInt) || decide (a.toNat % 4 ≠ 0 ∨ b.toNat % 4 ≠ 0),
      c := decide (a.toNat < b.toNat) } := by
  rw [← subOverflow_signedRange, ← tagged_eq, ← flagZ_eq_decide]
  rfl

section
variable {f : Word → Word → Word} {icc : Word → Word → Word → Icc} {rd rs1 : Reg} {src : Operand2} {s : State}

theorem raises_trapOnV (hv : (icc (s.reg rs1) (s.operand2 src) (f (s.reg rs1) (s.operand2 src))).v = true) :
    Raises (trapOnV f icc rd rs1 src s) s .tagOverflow := if_pos hv

theorem trapOnV_of_not_v (hv : (icc (s.reg rs1) (s.operand2 src) (f (s.reg rs1) (s.operand2 src))).v = false) :
    trapOnV f icc rd rs1 src s = aluCc f icc rd rs1 src s := if_neg (by simp [hv])
end

/-! ### The atomic forms (R367, R373) -/

/-- A register write after a store: rd, the stored bytes and the triple are all that changes. -/
theorem Stored.finish {s e : State} {a : Word} {n v : Nat} (h : Stored s e a n v) (hs : s.sized = true) (hq : s.quiet = true) (rd : Reg)
    (w : Word) : ∃ t, e.finish rd w = .next t ∧ Proceeds s t s.npc2 ∧ SameSpecials s t ∧ Writes s t rd w ∧ t.mem = e.mem := by
  have hk : Keeps s (e.setReg rd w) := by rw [h.onlyMem]; constructor <;> simp
  have hnpc2 : (e.setReg rd w).npc2 = s.npc2 := by rw [h.onlyMem]; simp
  have hspecials : SameSpecials s (e.setReg rd w) := by rw [h.onlyMem]; constructor <;> simp
  have hglobals : e.globals = s.globals := by rw [h.onlyMem]
  have hwindows : e.windows = s.windows := by rw [h.onlyMem]
  obtain ⟨hc, hp⟩ := proceeds_of hk (hk.quiet hq) hnpc2
  exact ⟨_, hc, hp, { hspecials with }, (writes_setReg (h.sized.trans hs) hglobals hwindows rd w).advance, e.setReg_mem rd w⟩

section
variable {s : State} {rd rs1 : Reg} {src : Operand2} {ea : Word} (hea : ea = s.reg rs1 + s.operand2 src) (h8 : s.cfg.implUnlisted = .v8)
include hea h8

theorem exec_ldstub_answered (hr : s.portFaults .read ea 1 = false) (hw : s.portFaults .write ea 1 = false) :
    exec (.ldstub rd rs1 src) s = (s.putByte ea 0xFF).finish rd (BitVec.ofNat 32 (s.byteAt ea).toNat) := by
  rw [exec_ldstub hea h8, State.read8, State.thenPort_access_ok _ _ hr, State.write8, State.thenPort_access_ok _ _ hw,
    BitVec.ofNat_toNat]

theorem exec_swap_answered (ha : ea.toNat % 4 = 0) (hr : s.portFaults .read ea 4 = false) (hw : s.portFaults .write ea 4 = false) :
    exec (.swap rd rs1 src) s = (s.putWord ea (s.reg rd)).finish rd (s.wordAt ea) := by
  rw [exec_swap hea h8, if_pos ha, State.read32, State.thenPort_access_ok _ _ hr, State.write32, State.thenPort_access_ok _ _ hw]
end

/-! ### The Invalid rows (R360, R368, R372, R374) -/

/-- With IMPL_UNLISTED = illegal, executing one of the twelve rows but STBAR's is executing Invalid (R360). -/
theorem raises_of_twelve {i : Instr} (hclass : i.rowClass = .twelve) (hstbar : ∀ low, i ≠ .stbar low) {s : State}
    (h : s.cfg.implUnlisted = .illegal) : Raises (exec i s) s .illegalInstruction := by
  have hunlisted : ∃ k, exec i s = s.unlisted k := by
    cases i
    case stbar low => exact absurd rfl (hstbar low)
    case addx | addxcc | subx | subxcc | taddcc | tsubcc | taddcctv | tsubcctv | flush | ldstub | swap => exact ⟨_, rfl⟩
    all_goals cases hclass
  obtain ⟨k, hk⟩ := hunlisted
  rw [Raises, hk, State.unlisted, h]
  rfl

/-- Executing a row that no word decodes to is executing Invalid (R368, R372, R374). -/
theorem exec_unmapped {i : Instr} (hclass : i.rowClass = .unmapped) (s : State) : exec i s = s.trap .illegalInstruction := by
  cases i
  case lda | lduba | lduha | ldda | sta | stba | stha | stda | ldsba | ldsha | ldstuba | swapa | ldf | ldfsr | lddf | stf | stfsr | stdfq |
    stdf | ldc | ldcsr | lddc | stc | stcsr | stdcq | stdc | fpop1 | fpop2 | cpop1 | cpop2 | unimp | fbfcc | cbccc => rfl
  all_goals cases hclass

end Sys2Proof.Machine

open Sys2Proof Sys2Proof.Machine

/-- Settles O48: the model's results with a carry in are the numbers', and so are the flags. -/
theorem carryForms : Obligations.CarryForms := by
  rintro s rd rs1 src hs hq h8 a b r d k rfl rfl rfl rfl rfl
  rw [← iccAdd_eq_bits, ← iccSub_eq_bits, ← addCarry_eq_ofNat, ← subCarry_eq_ofInt]
  exact ⟨givesReg_unlisted h8 (givesReg_alu hs hq rd rs1 src (addCarry s) rfl),
    givesReg_unlisted h8 (givesReg_alu hs hq rd rs1 src (subCarry s) rfl),
    givesReg_unlisted h8 (givesReg_aluCc hs hq rd rs1 src (addCarry s) (iccAdd · · s.psr.icc.c ·) rfl),
    givesReg_unlisted h8 (givesReg_aluCc hs hq rd rs1 src (subCarry s) (iccSub · · s.psr.icc.c ·) rfl)⟩

/-- Settles O49: `va` and `vs` are the V of the tagged flags, which decides whether a trapping form raises or does what its plain form does. -/
theorem taggedForms : Obligations.TaggedForms := by
  rintro s rd rs1 src h8 a b tag va vs rfl rfl rfl hva hvs
  have hadd := iccTaggedAdd_eq (s.reg rs1) (s.operand2 src)
  have hsub := iccTaggedSub_eq (s.reg rs1) (s.operand2 src)
  rw [← hva] at hadd
  rw [← hvs] at hsub
  have hvAdd := congrArg Icc.v hadd
  have hvSub := congrArg Icc.v hsub
  refine ⟨fun hv => raises_unlisted h8 (raises_trapOnV (hvAdd.trans hv)), fun hv => raises_unlisted h8 (raises_trapOnV (hvSub.trans hv)),
    fun hs hq fa fs hfa hfs => ?_⟩
  rw [hfa, hfs, ← hadd, ← hsub]
  have htadd := givesReg_aluCc hs hq rd rs1 src (· + ·) iccTaggedAdd rfl
  have htsub := givesReg_aluCc hs hq rd rs1 src (· - ·) iccTaggedSub rfl
  refine ⟨givesReg_unlisted h8 htadd, givesReg_unlisted h8 htsub, fun hv => givesReg_unlisted h8 ?_, fun hv => givesReg_unlisted h8 ?_⟩
  · rwa [trapOnV_of_not_v (hvAdd.trans hv)]
  · rwa [trapOnV_of_not_v (hvSub.trans hv)]

/-- Settles O50: both complete the step and do nothing else. -/
theorem orderingNoOperations : Obligations.OrderingNoOperations := by
  intro s rd rs1 src low hq h8
  rw [exec_flush_v8 h8, exec_stbar_v8 h8]
  exact ⟨givesMove_self hq, givesMove_self hq⟩

/-- Settles O51: each is the store, then the register write of what was read before it. -/
theorem atomicForms : Obligations.AtomicForms := by
  intro s rd rs1 src h8 ea hea
  refine ⟨fun ha => ?misaligned, fun hs hq hm => ⟨fun hr hw => ?ldstub, fun ha hr hw => ?swap⟩⟩
  case misaligned =>
    rw [exec_swap hea h8, if_neg ha]
    rfl
  case ldstub =>
    obtain ⟨t, ht, hp, hspecials, hwrites, hmem⟩ := (stored_putByte hm ea 0xFF).finish hs hq rd (BitVec.ofNat 32 (s.byteAt ea).toNat)
    refine ⟨t, (exec_ldstub_answered hea h8 hr hw).trans ht, hp, hspecials, hwrites, fun a => ?_⟩
    rw [sameBytes_of_mem hmem, State.byteAt_putByte _ _ _ _ hm]
  case swap =>
    have hstored := stored_putWord hm ea (s.reg rd)
    obtain ⟨t, ht, hp, hspecials, hwrites, hmem⟩ := hstored.finish hs hq rd (s.wordAt ea)
    have hbytes := sameBytes_of_mem hmem
    refine ⟨t, (exec_swap_answered hea h8 ha hr hw).trans ht, hp, hspecials, hwrites, ?_, fun a h0 h1 h2 h3 => ?_⟩
    · rw [State.wordAt, hbytes, hbytes, hbytes, hbytes]
      exact hstored.wordAt_self
    · rw [hbytes, State.byteAt_putWord _ _ _ _ hm, if_neg h3, if_neg h2, if_neg h1, if_neg h0]

/-- Settles O52: the eleven are rows of the twelve other than STBAR's, whose words are RDASR's. -/
theorem unlistedByDefault : Obligations.UnlistedByDefault := by
  intro s rd rs1 src low hillegal
  refine ⟨fun i hi => ?eleven, ?stbarWord, exec_stbar_illegal hillegal low⟩
  case stbarWord => rw [hillegal]; exact encodeThenDecode.2 low
  case eleven =>
    have hrow : i.wellFormed = true ∧ i.rowClass = .twelve ∧ ∀ low, i ≠ .stbar low := by
      simp only [List.mem_cons, List.not_mem_nil, or_false] at hi
      rcases hi with rfl | rfl | rfl | rfl | rfl | rfl | rfl | rfl | rfl | rfl | rfl <;> exact ⟨rfl, rfl, nofun⟩
    obtain ⟨hwf, hclass, hstbar⟩ := hrow
    exact ⟨(encodeThenDecode.1 i hwf).2.2 _ (.inr ⟨hclass, hillegal, hstbar⟩), raises_of_twelve hclass hstbar hillegal⟩

/-- Settles O53: the 33 are rows that no setting maps; their trap is illegal_instruction's. -/
theorem invalidRowsEnterIllegalInstruction : Obligations.InvalidRowsEnterIllegalInstruction := by
  intro s rd rs1 src opf rs2 imm22 a cond i hi
  have hrow : i.wellFormed = true ∧ i.rowClass = .unmapped := by
    have hrows := (List.all_eq_true (p := fun i : Instr => i.wellFormed && i.rowClass == .unmapped)).1 rfl i hi
    simpa using hrows
  obtain ⟨hwf, hclass⟩ := hrow
  rw [exec_unmapped hclass]
  exact ⟨fun u => (encodeThenDecode.1 i hwf).2.2 u (.inl hclass), rfl, entersTrap_of nofun, entersError_of rfl⟩

end
